-- ==== Sys2Proof/Word.lean ====
section
/-! DEFINITION. The word types of the block (00_scope.md rules R7, R8): fields of 8 bits, clock samples, durations and
operands of 32 bits, commands of 96 bits, pin levels of one bit. -/

namespace Sys2Proof

/-- An 8-bit field: opcode, port identifier, pin index, pin mode, fault code (R7, R71). -/
abbrev Byte := BitVec 8

/-- A 32-bit word: a word of the command port, a duration, a clock sample, a period (R7, R51). -/
abbrev Word := BitVec 32

/-- A whole command `W0:W1:W2`, W0 in bits 95 to 64 (R8, R70). -/
abbrev Command := BitVec 96

/-- A pin's instantaneous level, 0 low, 1 high (20_memory.md R58). -/
abbrev Level := BitVec 1

/-- `a -_32 b` of R10: subtraction modulo 2^32. -/
abbrev Word.minus (a b : Word) : Word := a - b

end Sys2Proof
end

