-- ==== Sys2Proof/Config.lean ====
section
/-! DEFINITION. What an implementation of the block fixes (00_scope.md R7, 92_eei_decisions.md table 2) as plain data, and
the values the spec leaves free, as constants without a body. -/

namespace Sys2Proof

/-- A pin is the pair (port, index) and nothing else; two pins are equal exactly when both parts are (40_gpio.md R100). -/
structure Pin where
  port  : Byte
  index : Byte
deriving DecidableEq, Repr

/-- The OPEN parameters of a platform. Any predicate on the 2^16 pins or the 2^8 modes is a list, so nothing is lost by
plain data. They are read through `pinValid`, `modeValid` and `analogWriteCapable` of Machine/Operands.lean. -/
structure Platform where
  /-- P1, `PIN_VALID`: the pins that exist. -/
  pins : List Pin
  /-- P2, `MODE_VALID` for modes 3 to 255: the further pin modes the platform has. -/
  furtherModes : List Byte
  /-- P3, `ANALOG_WRITE_CAPABLE`: the pins that take a write value other than 0 and 1. -/
  analogPins : List Pin
deriving DecidableEq, Repr

/-- The platform the spec's own vectors use (95_test_vectors.md, its head): ports 0 to 2 with indices 0 to 15, no further
mode, analog writes on (2, 9) only. DESIGN CHOICE (log 2): `State.reset` stands on it; the spec leaves P1 to P3 open. -/
def Platform.reference : Platform where
  pins := [0#8, 1#8, 2#8].flatMap fun p => (List.range 16).map fun i => ⟨p, BitVec.ofNat 8 i⟩
  furtherModes := []
  analogPins := [⟨2#8, 9#8⟩]

/-- P5, a free value: the clock's sample at the n-th draw for which the environment set none (20_memory.md R56, R57; log 3). -/
opaque Config.clockSample : Nat → Word

/-- P6, a free value: the level the GPIO port reports at the n-th draw for which the environment set none
(20_memory.md R58; log 4). -/
opaque Config.pinLevel : Nat → Pin → Level

end Sys2Proof
end

