-- ==== Sys2Proof/Syntax.lean ====
section
/-! DEFINITION. The sixteen commands of TPB-CMD v1 (30_encoding.md R75), one constructor per row of the opcode table, each
with the operands of R74 at the width the command carries them in. -/

namespace Sys2Proof

/-- A command. A duty cycle is kept as the raw word W1; `Machine.dutyFixed` reads it as signed Q16.16 (R9, R74). -/
inductive Instr where
  /-- GPIO.SETUP pin, mode (R103) -/
  | gpioSetup (pin : Pin) (mode : Byte)
  /-- GPIO.READ pin (R104) -/
  | gpioRead (pin : Pin)
  /-- GPIO.WRITE pin, value (R105) -/
  | gpioWrite (pin : Pin) (value : Word)
  /-- GPIO.HIGH pin (R106) -/
  | gpioHigh (pin : Pin)
  /-- GPIO.LOW pin (R107) -/
  | gpioLow (pin : Pin)
  /-- PG.INIT pin, on, off (R128) -/
  | pgInit (pin : Pin) (on off : Word)
  /-- PG.REFRESH (R129) -/
  | pgRefresh
  /-- PG.SETON d (R130) -/
  | pgSetOn (d : Word)
  /-- PG.SETOFF d (R131) -/
  | pgSetOff (d : Word)
  /-- MD.INIT pin, f (R155) -/
  | mdInit (pin : Pin) (f : Word)
  /-- MD.REFRESH (R156) -/
  | mdRefresh
  /-- MD.SETFREQ f (R157) -/
  | mdSetFreq (f : Word)
  /-- MD.SETDUTY d (R158) -/
  | mdSetDuty (d : Word)
  /-- MD.FORWARD (R159) -/
  | mdForward
  /-- MD.BACKWARD (R160) -/
  | mdBackward
  /-- MD.STOP (R161) -/
  | mdStop
deriving DecidableEq, Repr

end Sys2Proof
end

