-- ==== Sys2Proof/WellFormed.lean ====
section
/-! DEFINITION. Which command words are well-formed (30_encoding.md R73, R75, R77), said field by field from R73's columns
and without R73's masks, which Decode.lean uses: the two renderings of the table check each other.
A term of `Instr` needs no check of its own: each operand has exactly the width of the field that carries it (R74). -/

namespace Sys2Proof

namespace Command

/-- The opcode as a number, bits 95 to 88 (R71). -/
def opcodeNat (c : Command) : Nat := (c.extractLsb 95 88).toNat

/-- Check 1 (R75, R77): the opcode is one of the map. -/
def opcodeAssigned (c : Command) : Bool :=
  [0x10, 0x11, 0x12, 0x13, 0x14, 0x20, 0x21, 0x22, 0x23, 0x30, 0x31, 0x32, 0x33, 0x34, 0x35, 0x36].contains c.opcodeNat

/-- Check 2 (R73): PORT is zero unless the format carries a pin. -/
def portOk (c : Command) : Bool :=
  [0x10, 0x11, 0x12, 0x13, 0x14, 0x20, 0x30].contains c.opcodeNat || c.extractLsb 87 80 == 0

/-- Check 3 (R73): INDEX is zero unless the format carries a pin. -/
def indexOk (c : Command) : Bool :=
  [0x10, 0x11, 0x12, 0x13, 0x14, 0x20, 0x30].contains c.opcodeNat || c.extractLsb 79 72 == 0

/-- Check 4 (R73): AUX is zero unless the format carries a mode. -/
def auxOk (c : Command) : Bool := [0x10].contains c.opcodeNat || c.extractLsb 71 64 == 0

/-- Check 5 (R73): W1 is zero unless the format carries operand A. -/
def operandAOk (c : Command) : Bool :=
  [0x12, 0x20, 0x22, 0x23, 0x30, 0x32, 0x33].contains c.opcodeNat || c.extractLsb 63 32 == 0

/-- Check 6 (R73): W2 is zero unless the format carries operand B. -/
def operandBOk (c : Command) : Bool := [0x20].contains c.opcodeNat || c.extractLsb 31 0 == 0

/-- A well-formed command: an assigned opcode, and every reserved field of its format zero (R73). -/
def wellFormed (c : Command) : Bool :=
  c.opcodeAssigned && c.portOk && c.indexOk && c.auxOk && c.operandAOk && c.operandBOk

end Command

end Sys2Proof
end

