-- ==== Sys2Proof/Decode.lean ====
section
/-! DEFINITION. The encoding of TPB-CMD v1 (30_encoding.md): opcode map, formats and masks, the decoder, total on any words
and any bytes, the encoder, and the byte transport of 20_memory.md R52. -/

namespace Sys2Proof

/-- The rows of the opcode map (R75). -/
inductive Opcode where
  | gpioSetup | gpioRead | gpioWrite | gpioHigh | gpioLow
  | pgInit | pgRefresh | pgSetOn | pgSetOff
  | mdInit | mdRefresh | mdSetFreq | mdSetDuty | mdForward | mdBackward | mdStop
deriving DecidableEq, Repr

/-- The six formats (R73). -/
inductive Format where
  | n | a | p | pm | pa | pab
deriving DecidableEq, Repr

/-- Why decode refuses a command (R76). -/
inductive DecodeFault where
  /-- the opcode is not in the map -/
  | illegalCommand
  /-- a reserved field is not zero -/
  | reservedBits
deriving DecidableEq, Repr

/-- Every row of the opcode map, in the map's order. -/
def Opcode.all : List Opcode :=
  [.gpioSetup, .gpioRead, .gpioWrite, .gpioHigh, .gpioLow, .pgInit, .pgRefresh, .pgSetOn, .pgSetOff,
   .mdInit, .mdRefresh, .mdSetFreq, .mdSetDuty, .mdForward, .mdBackward, .mdStop]

/-- The column `OPC` of R75. -/
def Opcode.code : Opcode → Byte
  | .gpioSetup => 0x10 | .gpioRead => 0x11 | .gpioWrite => 0x12 | .gpioHigh => 0x13 | .gpioLow => 0x14
  | .pgInit => 0x20 | .pgRefresh => 0x21 | .pgSetOn => 0x22 | .pgSetOff => 0x23
  | .mdInit => 0x30 | .mdRefresh => 0x31 | .mdSetFreq => 0x32 | .mdSetDuty => 0x33
  | .mdForward => 0x34 | .mdBackward => 0x35 | .mdStop => 0x36

/-- The column `format` of R75. -/
def Opcode.format : Opcode → Format
  | .gpioSetup => .pm
  | .gpioRead | .gpioHigh | .gpioLow => .p
  | .gpioWrite | .mdInit => .pa
  | .pgInit => .pab
  | .pgRefresh | .mdRefresh | .mdForward | .mdBackward | .mdStop => .n
  | .pgSetOn | .pgSetOff | .mdSetFreq | .mdSetDuty => .a

/-- The column `mask` of R73: a 1 at every bit that selects the command, the opcode's and the reserved ones. -/
def Format.mask : Format → Command
  | .n   => 0xFFFFFFFFFFFFFFFFFFFFFFFF
  | .a   => 0xFFFFFFFF00000000FFFFFFFF
  | .p   => 0xFF0000FFFFFFFFFFFFFFFFFF
  | .pm  => 0xFF000000FFFFFFFFFFFFFFFF
  | .pa  => 0xFF0000FF00000000FFFFFFFF
  | .pab => 0xFF0000FF0000000000000000

/-- The row whose opcode a byte is, if the byte is assigned. -/
def opcodeOf (b : Byte) : Option Opcode := Opcode.all.find? (fun op => op.code == b)

/-- `OPC`, command bits 95 to 88 (R71). -/
def Command.opc (c : Command) : Byte := c.extractLsb 95 88
/-- `PORT`, command bits 87 to 80 (R71). -/
def Command.port (c : Command) : Byte := c.extractLsb 87 80
/-- `INDEX`, command bits 79 to 72 (R71). -/
def Command.index (c : Command) : Byte := c.extractLsb 79 72
/-- `AUX`, command bits 71 to 64 (R71). -/
def Command.aux (c : Command) : Byte := c.extractLsb 71 64
/-- Operand `A`, W1, command bits 63 to 32 (R72). -/
def Command.opA (c : Command) : Word := c.extractLsb 63 32
/-- Operand `B`, W2, command bits 31 to 0 (R72). -/
def Command.opB (c : Command) : Word := c.extractLsb 31 0
/-- The pin operand (R74). -/
def Command.pin (c : Command) : Pin := ⟨c.port, c.index⟩
/-- Word W0 (R8). -/
def Command.w0 (c : Command) : Word := c.extractLsb 95 64

/-- `W0:W1:W2` (R8). -/
def Command.ofWords (w0 w1 w2 : Word) : Command := w0 ++ w1 ++ w2

/-- The three words of a command in the order they are sent (R51). -/
def Command.words (c : Command) : List Word := [c.w0, c.opA, c.opB]

/-- A command from its six fields (R71, R72). -/
def Command.pack (opc port index aux : Byte) (a b : Word) : Command := opc ++ port ++ index ++ aux ++ a ++ b

/-- `match` of R73: the opcode in bits 95 to 88 and zeros elsewhere. -/
def Opcode.matchBits (op : Opcode) : Command := Command.pack op.code 0 0 0 0 0

/-- The instruction of a row, its operands assembled as R74 says. -/
def Opcode.assemble (op : Opcode) (c : Command) : Instr :=
  match op with
  | .gpioSetup  => .gpioSetup c.pin c.aux
  | .gpioRead   => .gpioRead c.pin
  | .gpioWrite  => .gpioWrite c.pin c.opA
  | .gpioHigh   => .gpioHigh c.pin
  | .gpioLow    => .gpioLow c.pin
  | .pgInit     => .pgInit c.pin c.opA c.opB
  | .pgRefresh  => .pgRefresh
  | .pgSetOn    => .pgSetOn c.opA
  | .pgSetOff   => .pgSetOff c.opA
  | .mdInit     => .mdInit c.pin c.opA
  | .mdRefresh  => .mdRefresh
  | .mdSetFreq  => .mdSetFreq c.opA
  | .mdSetDuty  => .mdSetDuty c.opA
  | .mdForward  => .mdForward
  | .mdBackward => .mdBackward
  | .mdStop     => .mdStop

/-- R76: the opcode first, then the reserved bits, then the operands. -/
def decode (c : Command) : Except DecodeFault Instr :=
  match opcodeOf c.opc with
  | none => .error .illegalCommand
  | some op => if c &&& op.format.mask = op.matchBits then .ok (op.assemble c) else .error .reservedBits

/-- The command of an instruction (R71 to R75), every reserved field zero. -/
def encode : Instr → Command
  | .gpioSetup pin mode  => Command.pack 0x10 pin.port pin.index mode 0 0
  | .gpioRead pin        => Command.pack 0x11 pin.port pin.index 0 0 0
  | .gpioWrite pin value => Command.pack 0x12 pin.port pin.index 0 value 0
  | .gpioHigh pin        => Command.pack 0x13 pin.port pin.index 0 0 0
  | .gpioLow pin         => Command.pack 0x14 pin.port pin.index 0 0 0
  | .pgInit pin on off   => Command.pack 0x20 pin.port pin.index 0 on off
  | .pgRefresh           => Command.pack 0x21 0 0 0 0 0
  | .pgSetOn d           => Command.pack 0x22 0 0 0 d 0
  | .pgSetOff d          => Command.pack 0x23 0 0 0 d 0
  | .mdInit pin f        => Command.pack 0x30 pin.port pin.index 0 f 0
  | .mdRefresh           => Command.pack 0x31 0 0 0 0 0
  | .mdSetFreq f         => Command.pack 0x32 0 0 0 f 0
  | .mdSetDuty d         => Command.pack 0x33 0 0 0 d 0
  | .mdForward           => Command.pack 0x34 0 0 0 0 0
  | .mdBackward          => Command.pack 0x35 0 0 0 0 0
  | .mdStop              => Command.pack 0x36 0 0 0 0 0

/-! ## The byte transport (20_memory.md R52) -/

/-- The four bytes of a word, least significant first (R52). -/
def wordBytes (w : Word) : List Byte :=
  [w.extractLsb 7 0, w.extractLsb 15 8, w.extractLsb 23 16, w.extractLsb 31 24]

/-- The word four bytes carry, the first the least significant (R52). -/
def wordOfBytes (b0 b1 b2 b3 : Byte) : Word := b3 ++ b2 ++ b1 ++ b0

/-- The twelve bytes of a command, in the order they are sent (R52). -/
def Command.bytes (c : Command) : List Byte := wordBytes c.w0 ++ wordBytes c.opA ++ wordBytes c.opB

/-- The words a sequence of bytes carries; a word whose four bytes have not all come is not there yet (R51, R52). -/
def wordsOfBytes : List Byte → List Word
  | b0 :: b1 :: b2 :: b3 :: rest => wordOfBytes b0 b1 b2 b3 :: wordsOfBytes rest
  | _ => []

/-- The first command of a sequence of words, and the words after it; none where fewer than three have come (R51, R53). -/
def takeCommand : List Word → Option (Command × List Word)
  | w0 :: w1 :: w2 :: rest => some (Command.ofWords w0 w1 w2, rest)
  | _ => none

/-- What decoding a sequence of bytes answers: nothing yet, or the decoder's answer on the first command. -/
def decodeBytes (bs : List Byte) : Option (Except DecodeFault Instr) :=
  (takeCommand (wordsOfBytes bs)).map fun p => decode p.1

/-! ## The opcode table's words -/

/-- The command of a row of spec/opcode_table.json. The table numbers a command's bits as R8 does, W0 in bits 95 to 64,
so `nbits` fewer than 96 are the command's leading bits and zeros follow them (log 9). -/
def tableCommand (nbits w : Nat) : Command := BitVec.ofNat 96 ((w % 2 ^ nbits) * 2 ^ (96 - nbits))

/-- The instruction the decoder reads from a table word, sent over the byte transport. -/
def decodeTableWord (nbits w : Nat) : Option Instr :=
  match decodeBytes (tableCommand nbits w).bytes with
  | some (.ok i) => some i
  | _ => none

end Sys2Proof
end

