-- ==== Sys2Proof/Machine/State.lean ====
section
/-! DEFINITION. The block's state (10_state.md R20 to R36) as plain data, the reasons a step can stop, and reset
(70_reset_and_hazards.md R200). -/

namespace Sys2Proof.Machine

/-- `PG_PHASE`: OFF is 0, ON is 1 (R25). -/
inductive Phase where
  | off | on
deriving DecidableEq, Repr

/-- An event the block sends to the GPIO port (R11, R34). -/
inductive Event where
  | pinSetup (pin : Pin) (mode : Byte)
  | pinWrite (pin : Pin) (value : Word)
  | pinRead (pin : Pin)
deriving DecidableEq, Repr

/-- The six fault causes (60_exceptions.md R181); their codes are `FaultCause.code`. -/
inductive FaultCause where
  | illegalCommand | reservedBits | invalidPin | zeroFrequency | invalidMode | invalidValue
deriving DecidableEq, Repr

/-- The block with its inputs. The first group is R20's; `port` and `responses` are the two channels of 20_memory.md R51
and R59; the last group is the model's own, the parameters and draws of R41. -/
structure State where
  /-- `PG_READY` (R23) -/
  pgReady : Bool
  /-- `PG_PORT` (R24) -/
  pgPort : Byte
  /-- `PG_INDEX` (R24) -/
  pgIndex : Byte
  /-- `PG_PHASE` (R25) -/
  pgPhase : Phase
  /-- `PG_ON_TIME` (R26) -/
  pgOnTime : Word
  /-- `PG_OFF_TIME` (R27) -/
  pgOffTime : Word
  /-- `PG_LAST_T` (R28) -/
  pgLastT : Word
  /-- `MD_READY` (R29) -/
  mdReady : Bool
  /-- `MD_PERIOD` (R30) -/
  mdPeriod : Word
  /-- `FAULT_CAUSE` (R31) -/
  faultCause : Byte
  /-- `FAULT_CMD` (R32) -/
  faultCmd : Command
  /-- the event trace, oldest first (R34) -/
  trace : List Event
  /-- the values returned to the host, oldest first (R59; log 11) -/
  responses : List Level
  /-- the words received on the command port and not yet executed, oldest first (R51, R53; log 8) -/
  port : List Word
  /-- the platform's parameters P1 to P3 (R7, R41; log 2) -/
  platform : Platform
  /-- the samples set for the coming clock draws, first used first (R57; log 3) -/
  clockIn : List Word
  /-- how many clock samples have been drawn (log 3) -/
  clockDraws : Nat
  /-- the levels set for the coming level draws, first used first (R58; log 4) -/
  levelIn : List Level
  /-- how many levels have been drawn (log 4) -/
  levelDraws : Nat
deriving DecidableEq, Repr

/-- Why the machine stops. -/
inductive Fault where
  /-- Raised by `step`, and by every meaning, in a state with `FAULT_CAUSE != 0`: the halted block takes no step until
  reset (R33, R182; 92_eei_decisions.md D37). Safe: the spec gives the state no step (log 6). -/
  | halted
deriving DecidableEq, Repr

/-- Why the machine has no meaning for an instruction. -/
inductive Refusal where
  /-- Raised by an arm of `exec` whose instruction has no meaning yet; no arm is left that raises it. Safe. -/
  | notModelled (mnemonic : String)
deriving DecidableEq, Repr

/-- The three outcomes of a command on this machine. -/
abbrev Result := Host.Outcome State Fault Refusal

/-- Reset on a platform (R35, R200): both ready bits 0, FAULT_CAUSE 0, the trace and the port empty. The registers R35
gives "no value" hold zero, DESIGN CHOICE (log 1); the model's own fields start empty, DESIGN CHOICE (log 3, 4, 11). -/
def State.resetOn (p : Platform) : State where
  pgReady := false
  pgPort := 0
  pgIndex := 0
  pgPhase := .off
  pgOnTime := 0
  pgOffTime := 0
  pgLastT := 0
  mdReady := false
  mdPeriod := 0
  faultCause := 0
  faultCmd := 0
  trace := []
  responses := []
  port := []
  platform := p
  clockIn := []
  clockDraws := 0
  levelIn := []
  levelDraws := 0

/-- Reset on the platform of the spec's vectors, DESIGN CHOICE (log 2). -/
def State.reset : State := State.resetOn Platform.reference

end Sys2Proof.Machine
end

