-- ==== Sys2Proof/Machine/Flags.lean ====
section
/-! DEFINITION. The block's status bits and the comparisons on them. There are no condition codes (10_state.md R42): the
status is `PG_READY`, `MD_READY`, `PG_PHASE` and the halted condition. -/

namespace Sys2Proof.Machine

/-- The value written to FAULT_CAUSE (60_exceptions.md R181). -/
def FaultCause.code : FaultCause → Byte
  | .illegalCommand => 1
  | .reservedBits => 2
  | .invalidPin => 3
  | .zeroFrequency => 4
  | .invalidMode => 5
  | .invalidValue => 6

/-- The cause a decode failure takes (30_encoding.md R76). -/
def decodeCause : DecodeFault → FaultCause
  | .illegalCommand => .illegalCommand
  | .reservedBits => .reservedBits

/-- Halted, exactly when `FAULT_CAUSE != 0` (R33). -/
def State.halted (s : State) : Bool := s.faultCause != 0

/-- `level(phase)`: 1 for ON, 0 for OFF, as the value of a pin write (R11, R25). -/
def Phase.level : Phase → Word
  | .on => 1
  | .off => 0

/-- `not PG_PHASE` (R125). -/
def Phase.flip : Phase → Phase
  | .on => .off
  | .off => .on

/-- The active duration, the configured duration of the current phase (41_pulse_generator.md R122). -/
def State.activeDuration (s : State) : Word :=
  match s.pgPhase with
  | .on => s.pgOnTime
  | .off => s.pgOffTime

/-- Elapsed time at the sample `now`, modulo 2^32 (R124). -/
def State.elapsed (s : State) (now : Word) : Word := Word.minus now s.pgLastT

/-- The boundary comparison `elapsed >= dur`, unsigned (R123). -/
def State.due (s : State) (now : Word) : Bool := decide (s.activeDuration.toNat ≤ (s.elapsed now).toNat)

end Sys2Proof.Machine
end

