-- ==== Sys2Proof/Machine/Operands.lean ====
section
/-! DEFINITION. What the operands of a command mean: the platform's checks on pins, modes and write values, and the mapper's
functions from a frequency and a duty cycle (42_duty_mapper.md R152 to R154). -/

namespace Sys2Proof.Machine

/-- `PIN_VALID(port, index)`, parameter P1 (20_memory.md R54, 40_gpio.md R101). -/
def pinValid (p : Platform) (pin : Pin) : Bool := p.pins.contains pin

/-- `MODE_VALID(mode)`: 0 Input, 1 Output, 2 AnalogInput always; 3 to 255 by parameter P2 (40_gpio.md R103). -/
def modeValid (p : Platform) (mode : Byte) : Bool := decide (mode.toNat ≤ 2) || p.furtherModes.contains mode

/-- `ANALOG_WRITE_CAPABLE(port, index)`, parameter P3 (40_gpio.md R105). -/
def analogWriteCapable (p : Platform) (pin : Pin) : Bool := p.analogPins.contains pin

/-- The values `GPIO.WRITE` accepts: 0 and 1 on every pin, every other on an analog-capable one (R105). -/
def writeValueValid (p : Platform) (pin : Pin) (value : Word) : Bool :=
  decide (value.toNat ≤ 1) || analogWriteCapable p pin

/-- `Period(f) = 1000 div f` for `f >= 1` (R152); `f = 0` faults before this is read. -/
def period (f : Word) : Word := BitVec.ofNat 32 (1000 / f.toNat)

/-- `clamp(sext_32(W1), 0, 65536)`: the duty cycle as Q16.16 between 0.0 and 1.0 (R9, R154). -/
def dutyFixed (d : Word) : Nat :=
  if d.toInt < 0 then 0 else if 65536 < d.toInt then 65536 else d.toInt.toNat

/-- `on`: the period times the duty cycle, rounded down (R154), on exact integers (R10). -/
def dutyOn (mdPeriod d : Word) : Nat := (mdPeriod.toNat * dutyFixed d) / 65536

/-- `off`: the rest of the period (R154). -/
def dutyOff (mdPeriod d : Word) : Nat := mdPeriod.toNat - dutyOn mdPeriod d

end Sys2Proof.Machine
end

