-- ==== Sys2Proof/Machine/Ops.lean ====
section
/-! DEFINITION. The primitives the commands are made of (00_scope.md R11): draws, events, responses, register groups, the
transition, and taking a fault (60_exceptions.md R182), which is the block's one exception. Nothing returns from a fault but
reset (R184), so `State.resetBlock` stands beside it. -/

namespace Sys2Proof.Machine

/-- The pin the generator is bound to (10_state.md R24). -/
def State.boundPin (s : State) : Pin := ⟨s.pgPort, s.pgIndex⟩

/-! ## Inputs -/

/-- The value `SampleClock()` returns now: the next sample the environment set, else a free value (R56, R57; log 3). -/
def State.clockSample (s : State) : Word :=
  match s.clockIn with
  | t :: _ => t
  | [] => Config.clockSample s.clockDraws

/-- The state after `SampleClock()`: one draw is used up. -/
def State.drawClock (s : State) : State := { s with clockIn := s.clockIn.tail, clockDraws := s.clockDraws + 1 }

/-- The value `ReadLevel` returns now for a pin: the next level the environment set, else a free value (R58; log 4). -/
def State.pinLevel (s : State) (pin : Pin) : Level :=
  match s.levelIn with
  | l :: _ => l
  | [] => Config.pinLevel s.levelDraws pin

/-- The state after `ReadLevel`: one draw is used up. -/
def State.drawLevel (s : State) : State := { s with levelIn := s.levelIn.tail, levelDraws := s.levelDraws + 1 }

/-! ## Outputs -/

/-- `Emit(e)` (R11, R34). -/
def State.emit (s : State) (e : Event) : State := { s with trace := s.trace ++ [e] }

/-- `Respond(v)` (R11, R59). -/
def State.respond (s : State) (l : Level) : State := { s with responses := s.responses ++ [l] }

/-! ## Taking a fault, and reset -/

/-- Taking a fault writes FAULT_CAUSE and FAULT_CMD and nothing else (R182). -/
def State.takeFault (s : State) (cause : FaultCause) (cmd : Command) : State :=
  { s with faultCause := cause.code, faultCmd := cmd }

/-- `raise Fault(cause)` in the command `i`: a next state, halted (R11, R182; log 7). -/
def raise (cause : FaultCause) (i : Instr) (s : State) : Result := .next (s.takeFault cause (encode i))

/-- Reset at any time (R200): every register at its reset value, the trace empty, the words waiting on the port gone; no
event. The platform, the draws to come and the responses the host already has are not the block's registers (log 10). -/
def State.resetBlock (s : State) : State :=
  { State.resetOn s.platform with
    responses := s.responses
    clockIn := s.clockIn
    clockDraws := s.clockDraws
    levelIn := s.levelIn
    levelDraws := s.levelDraws }

/-- The host sends words on the command port (R51). -/
def State.receive (s : State) (ws : List Word) : State := { s with port := s.port ++ ws }

/-- What waits on the command port becomes `ws` (R51): a step takes its command off this way. -/
def State.withPort (s : State) (ws : List Word) : State := { s with port := ws }

/-! ## Checks a command makes first -/

/-- A halted block executes nothing (R33, R187). -/
def whenRunning (s : State) (k : Result) : Result := if s.halted then .fault .halted else k

/-- The pin test of R101, before any other effect of the command `i`. -/
def whenPinValid (pin : Pin) (i : Instr) (s : State) (k : Result) : Result :=
  if pinValid s.platform pin then k else raise .invalidPin i s

/-! ## The pulse generator -/

/-- The two durations (R130, R131). -/
def State.setDurations (s : State) (on off : Word) : State := { s with pgOnTime := on, pgOffTime := off }

/-- The mapper's period (R152). -/
def State.setPeriod (s : State) (p : Word) : State := { s with mdPeriod := p }

/-- `PG_READY <- 1` (R23). -/
def State.markPgReady (s : State) : State := { s with pgReady := true }

/-- `MD_READY <- 1` (R29). -/
def State.markMdReady (s : State) : State := { s with mdReady := true }

/-- The pin, the phase and the baseline a generator starts with: OFF, timed from `now` (R128). -/
def State.bind (s : State) (pin : Pin) (now : Word) : State :=
  { s with pgPort := pin.port, pgIndex := pin.index, pgPhase := .off, pgLastT := now }

/-- The generator's part of an init command, in R128's order: one clock sample, the six registers, the pin driven low,
PG_READY. -/
def State.startGenerator (s : State) (pin : Pin) (on off : Word) : State :=
  ((((s.drawClock).bind pin s.clockSample).setDurations on off).emit (.pinWrite pin Phase.off.level)).markPgReady

/-- Step (1) and (3) of a transition: the phase flips and the timestamp restarts at `now` (R125, R127). -/
def State.flipPhase (s : State) (now : Word) : State := { s with pgPhase := s.pgPhase.flip, pgLastT := now }

/-- A transition (R125): the phase flips, the bound pin takes the new phase's level, the timestamp is `now`. -/
def State.transition (s : State) (now : Word) : State :=
  (s.flipPhase now).emit (.pinWrite s.boundPin s.pgPhase.flip.level)

/-- The body of PG.REFRESH (R129): before init nothing; else one sample, one comparison, at most one transition (R126). -/
def State.refreshGenerator (s : State) : State :=
  if s.pgReady then
    if s.due s.clockSample then s.drawClock.transition s.clockSample else s.drawClock
  else s

end Sys2Proof.Machine
end

