-- ==== Sys2Proof/Machine/DutyMapper.lean ====
section
/-! DEFINITION. The duty-cycle mapper commands (42_duty_mapper.md R155 to R161). -/

namespace Sys2Proof.Machine

/-- MD.INIT (R155): the pin, then the frequency, then the period, the generator started with on-time 0, both ready bits. -/
def execMdInit (pin : Pin) (f : Word) (s : State) : Result :=
  whenRunning s <| whenPinValid pin (.mdInit pin f) s <|
    if f = 0 then raise .zeroFrequency (.mdInit pin f) s
    else .next (((s.setPeriod (period f)).startGenerator pin 0 (period f)).markMdReady)

/-- MD.REFRESH (R156): a no-op before MD.INIT (R151), else the body of PG.REFRESH. -/
def execMdRefresh (s : State) : Result :=
  whenRunning s <| .next (if s.mdReady then s.refreshGenerator else s)

/-- MD.SETFREQ (R157): a no-op before MD.INIT, `f = 0` included (R183). -/
def execMdSetFreq (f : Word) (s : State) : Result :=
  whenRunning s <|
    if s.mdReady then
      if f = 0 then raise .zeroFrequency (.mdSetFreq f) s else .next (s.setPeriod (period f))
    else .next s

/-- MD.SETDUTY (R158). -/
def execMdSetDuty (d : Word) (s : State) : Result :=
  whenRunning s <| .next <|
    if s.mdReady then
      s.setDurations (BitVec.ofNat 32 (dutyOn s.mdPeriod d)) (BitVec.ofNat 32 (dutyOff s.mdPeriod d))
    else s

/-- MD.FORWARD: an explicit no-op in every state (R159). -/
def execMdForward (s : State) : Result := whenRunning s <| .next s

/-- MD.BACKWARD: an explicit no-op in every state (R160). -/
def execMdBackward (s : State) : Result := whenRunning s <| .next s

/-- MD.STOP: an explicit no-op in every state; it does not stop the pulse train (R161). -/
def execMdStop (s : State) : Result := whenRunning s <| .next s

end Sys2Proof.Machine
end

