-- ==== Sys2Proof/Machine/Gpio.lean ====
section
/-! DEFINITION. The GPIO gateway commands (40_gpio.md R103 to R107). They touch no register of the block (R102). -/

namespace Sys2Proof.Machine

/-- GPIO.SETUP (R103): the pin, then the mode, then the event. -/
def execGpioSetup (pin : Pin) (mode : Byte) (s : State) : Result :=
  whenRunning s <| whenPinValid pin (.gpioSetup pin mode) s <|
    if modeValid s.platform mode then .next (s.emit (.pinSetup pin mode))
    else raise .invalidMode (.gpioSetup pin mode) s

/-- GPIO.READ (R104): the event, one level draw, the response. -/
def execGpioRead (pin : Pin) (s : State) : Result :=
  whenRunning s <| whenPinValid pin (.gpioRead pin) s <|
    .next (((s.emit (.pinRead pin)).drawLevel).respond (s.pinLevel pin))

/-- GPIO.WRITE (R105). -/
def execGpioWrite (pin : Pin) (value : Word) (s : State) : Result :=
  whenRunning s <| whenPinValid pin (.gpioWrite pin value) s <|
    if writeValueValid s.platform pin value then .next (s.emit (.pinWrite pin value))
    else raise .invalidValue (.gpioWrite pin value) s

/-- GPIO.HIGH (R106). -/
def execGpioHigh (pin : Pin) (s : State) : Result :=
  whenRunning s <| whenPinValid pin (.gpioHigh pin) s <| .next (s.emit (.pinWrite pin 1))

/-- GPIO.LOW (R107). -/
def execGpioLow (pin : Pin) (s : State) : Result :=
  whenRunning s <| whenPinValid pin (.gpioLow pin) s <| .next (s.emit (.pinWrite pin 0))

end Sys2Proof.Machine
end

