-- ==== Sys2Proof/Machine/PulseGenerator.lean ====
section
/-! DEFINITION. The pulse generator commands (41_pulse_generator.md R128 to R131). -/

namespace Sys2Proof.Machine

/-- PG.INIT (R128). -/
def execPgInit (pin : Pin) (on off : Word) (s : State) : Result :=
  whenRunning s <| whenPinValid pin (.pgInit pin on off) s <| .next (s.startGenerator pin on off)

/-- PG.REFRESH (R129). -/
def execPgRefresh (s : State) : Result := whenRunning s <| .next s.refreshGenerator

/-- PG.SETON (R130). -/
def execPgSetOn (d : Word) (s : State) : Result :=
  whenRunning s <| .next (if s.pgReady then s.setDurations d s.pgOffTime else s)

/-- PG.SETOFF (R131). -/
def execPgSetOff (d : Word) (s : State) : Result :=
  whenRunning s <| .next (if s.pgReady then s.setDurations s.pgOnTime d else s)

end Sys2Proof.Machine
end

