-- ==== Sys2Proof/Machine/Dispatch.lean ====
section
/-! DEFINITION. One arm per constructor of Instr. -/

namespace Sys2Proof.Machine

def exec (i : Instr) (s : State) : Host.Outcome State Fault Refusal :=
  match i with
  | .gpioSetup pin mode => Sys2Proof.Machine.execGpioSetup pin mode s
  | .gpioRead pin => Sys2Proof.Machine.execGpioRead pin s
  | .gpioWrite pin value => Sys2Proof.Machine.execGpioWrite pin value s
  | .gpioHigh pin => Sys2Proof.Machine.execGpioHigh pin s
  | .gpioLow pin => Sys2Proof.Machine.execGpioLow pin s
  | .pgInit pin on off => Sys2Proof.Machine.execPgInit pin on off s
  | .pgRefresh => Sys2Proof.Machine.execPgRefresh s
  | .pgSetOn d => Sys2Proof.Machine.execPgSetOn d s
  | .pgSetOff d => Sys2Proof.Machine.execPgSetOff d s
  | .mdInit pin f => Sys2Proof.Machine.execMdInit pin f s
  | .mdRefresh => Sys2Proof.Machine.execMdRefresh s
  | .mdSetFreq f => Sys2Proof.Machine.execMdSetFreq f s
  | .mdSetDuty d => Sys2Proof.Machine.execMdSetDuty d s
  | .mdForward => Sys2Proof.Machine.execMdForward s
  | .mdBackward => Sys2Proof.Machine.execMdBackward s
  | .mdStop => Sys2Proof.Machine.execMdStop s

end Sys2Proof.Machine
end

