-- ==== Sys2Proof/Machine/Step.lean ====
section
/-! DEFINITION. One step of the block: one command from the command port, as one atomic step (00_scope.md R12,
20_memory.md R51, R60). -/

namespace Sys2Proof.Machine

/-- A halted block takes no step (R33). A block whose port holds no whole command waits: nothing changes (R51, R201; log 5).
Else the three words leave the port, and the command faults at decode (R76) or executes. -/
def step (s : State) : Host.Outcome State Fault Refusal :=
  if s.halted then .fault .halted
  else
    match takeCommand s.port with
    | none => .next s
    | some (c, rest) =>
      match decode c with
      | .error e => .next ((s.withPort rest).takeFault (decodeCause e) c)
      | .ok i => exec i (s.withPort rest)

/-- The state with a table word's command next on the port, before whatever waits there (log 8, log 9). -/
def State.withFetchWord (s : State) (nbits w : Nat) : State :=
  s.withPort (wordsOfBytes (tableCommand nbits w).bytes ++ s.port)

end Sys2Proof.Machine
end

