-- ==== Sys2Proof/Machine/Assembler.lean ====
section
/-! DEFINITION. The assembler's reading of one line of text (30_encoding.md R79 to R82) and of the test notation of R83.
Text is a list of characters; where R79 to R81 give no reading, the answer is none, an assembly error. -/

namespace Sys2Proof.Asm

/-! ## Characters and pieces -/

/-- The characters that count as blanks, DESIGN CHOICE (log 13). -/
def isBlank (c : Char) : Bool := c == ' ' || c == '\t' || c == '\r'

/-- The text without blanks at either end; where blanks may stand is a DESIGN CHOICE (log 13). -/
def trim (cs : List Char) : List Char := ((cs.dropWhile isBlank).reverse.dropWhile isBlank).reverse

/-- The text before the first `;`, where a comment starts (R79). -/
def stripComment (cs : List Char) : List Char := cs.takeWhile (· != ';')

/-- The pieces between the occurrences of a separator; one more than there are separators. -/
def splitAt (sep : Char) : List Char → List (List Char)
  | [] => [[]]
  | c :: cs =>
    if c == sep then [] :: splitAt sep cs
    else
      match splitAt sep cs with
      | [] => [[c]]
      | p :: ps => (c :: p) :: ps

def digitOf (c : Char) : Option Nat := if '0' ≤ c ∧ c ≤ '9' then some (c.toNat - '0'.toNat) else none

/-- A hexadecimal digit; both cases of the letters are read (log 13). -/
def hexDigitOf (c : Char) : Option Nat :=
  if 'A' ≤ c ∧ c ≤ 'F' then some (c.toNat - 'A'.toNat + 10)
  else if 'a' ≤ c ∧ c ≤ 'f' then some (c.toNat - 'a'.toNat + 10)
  else digitOf c

/-- The number a nonempty run of digits writes. -/
def number (base : Nat) (digit : Char → Option Nat) (cs : List Char) : Option Nat :=
  if cs.isEmpty then none
  else cs.foldl (fun acc c => acc.bind fun n => (digit c).map fun d => n * base + d) (some 0)

def decimal (cs : List Char) : Option Nat := number 10 digitOf cs

/-- A number below a bound. -/
def below (bound : Nat) (n : Option Nat) : Option Nat := n.filter (· < bound)

/-! ## Operands (R80, R81) -/

/-- An unsigned decimal or `0x` hexadecimal number that fits in 32 bits (R81). -/
def value (cs : List Char) : Option Word :=
  let n := match cs with
    | '0' :: 'x' :: ds => number 16 hexDigitOf ds
    | _ => decimal cs
  (below (2 ^ 32) n).map (BitVec.ofNat 32)

/-- A port: a decimal number 0 to 255 or a letter A to Z for 0 to 25 (R80). -/
def portName (cs : List Char) : Option Byte :=
  match cs with
  | [c] => if 'A' ≤ c ∧ c ≤ 'Z' then some (BitVec.ofNat 8 (c.toNat - 'A'.toNat))
           else (decimal [c]).map (BitVec.ofNat 8)
  | _ => (below 256 (decimal cs)).map (BitVec.ofNat 8)

/-- A pin, `P<port>.<index>` (R80). -/
def pin (cs : List Char) : Option Pin :=
  match cs with
  | 'P' :: rest =>
    match splitAt '.' rest with
    | [p, i] => (portName p).bind fun port => (below 256 (decimal i)).map fun n => ⟨port, BitVec.ofNat 8 n⟩
    | _ => none
  | _ => none

/-- A mode: `in`, `out`, `ain` or a decimal number 0 to 255 (R81). -/
def mode (cs : List Char) : Option Byte :=
  if cs = ['i', 'n'] then some 0
  else if cs = ['o', 'u', 't'] then some 1
  else if cs = ['a', 'i', 'n'] then some 2
  else (below 256 (decimal cs)).map (BitVec.ofNat 8)

/-- `x * 65536` for an unsigned decimal with an optional fraction, where it is an integer (R81). -/
def fixedPoint (cs : List Char) : Option Nat :=
  match splitAt '.' cs with
  | [w] => (decimal w).map (· * 65536)
  | [w, f] =>
    (decimal w).bind fun whole => (decimal f).bind fun frac =>
      let scale := 10 ^ f.length
      let raw := (whole * scale + frac) * 65536
      if raw % scale = 0 then some (raw / scale) else none
  | _ => none

/-- A decimal duty cycle with its sign, in two's complement, within [-2^31, 2^31-1] (R81). -/
def duty (cs : List Char) : Option Word :=
  match cs with
  | '0' :: 'x' :: _ => value cs
  | '-' :: ds => (below (2 ^ 31 + 1) (fixedPoint ds)).map fun n => BitVec.ofInt 32 (-(n : Int))
  | '+' :: ds => (below (2 ^ 31) (fixedPoint ds)).map (BitVec.ofNat 32)
  | _ => (below (2 ^ 31) (fixedPoint cs)).map (BitVec.ofNat 32)

/-! ## Lines (R79) -/

/-- The mnemonics of R75, as capitals. -/
def mnemonic : Opcode → List Char
  | .gpioSetup => "GPIO.SETUP".toList
  | .gpioRead => "GPIO.READ".toList
  | .gpioWrite => "GPIO.WRITE".toList
  | .gpioHigh => "GPIO.HIGH".toList
  | .gpioLow => "GPIO.LOW".toList
  | .pgInit => "PG.INIT".toList
  | .pgRefresh => "PG.REFRESH".toList
  | .pgSetOn => "PG.SETON".toList
  | .pgSetOff => "PG.SETOFF".toList
  | .mdInit => "MD.INIT".toList
  | .mdRefresh => "MD.REFRESH".toList
  | .mdSetFreq => "MD.SETFREQ".toList
  | .mdSetDuty => "MD.SETDUTY".toList
  | .mdForward => "MD.FORWARD".toList
  | .mdBackward => "MD.BACKWARD".toList
  | .mdStop => "MD.STOP".toList

/-- The row a mnemonic names, in either case (R79). -/
def opcodeNamed (cs : List Char) : Option Opcode :=
  Opcode.all.find? fun op => mnemonic op == cs.map Char.toUpper

/-- The instruction of a row and its operand texts, in the operand order of the row's format (R79). -/
def instr (op : Opcode) (args : List (List Char)) : Option Instr :=
  match op, args with
  | .gpioSetup, [p, m] => (pin p).bind fun p => (mode m).map fun m => .gpioSetup p m
  | .gpioRead, [p] => (pin p).map .gpioRead
  | .gpioWrite, [p, v] => (pin p).bind fun p => (value v).map fun v => .gpioWrite p v
  | .gpioHigh, [p] => (pin p).map .gpioHigh
  | .gpioLow, [p] => (pin p).map .gpioLow
  | .pgInit, [p, a, b] => (pin p).bind fun p => (value a).bind fun a => (value b).map fun b => .pgInit p a b
  | .pgRefresh, [] => some .pgRefresh
  | .pgSetOn, [v] => (value v).map .pgSetOn
  | .pgSetOff, [v] => (value v).map .pgSetOff
  | .mdInit, [p, v] => (pin p).bind fun p => (value v).map fun v => .mdInit p v
  | .mdRefresh, [] => some .mdRefresh
  | .mdSetFreq, [v] => (value v).map .mdSetFreq
  | .mdSetDuty, [d] => (duty d).map .mdSetDuty
  | .mdForward, [] => some .mdForward
  | .mdBackward, [] => some .mdBackward
  | .mdStop, [] => some .mdStop
  | _, _ => none

/-- The operand texts of a line, separated by commas; none at all where nothing follows the mnemonic (R79). Blanks are
dropped around each operand and none is needed at a comma, DESIGN CHOICE: R79 does not say where blanks stand (log 13). -/
def operands (cs : List Char) : List (List Char) :=
  let cs := trim cs
  if cs.isEmpty then [] else (splitAt ',' cs).map trim

/-- The instruction a line writes; none is an assembly error. Blanks before the mnemonic are dropped and the first blank after
it ends it, DESIGN CHOICE: R79 does not say where blanks stand (log 13). -/
def parse (line : List Char) : Option Instr :=
  let cs := trim (stripComment line)
  (opcodeNamed (cs.takeWhile fun c => !isBlank c)).bind fun op =>
    instr op (operands (cs.dropWhile fun c => !isBlank c))

/-- The command a line assembles to, every reserved field zero (R79). -/
def assemble (line : List Char) : Option Command := (parse line).map encode

/-- The commands of a text, one to a line; a line with nothing but blanks and a comment is passed over (log 13). -/
def assembleText (text : List Char) : Option (List Command) :=
  ((splitAt '\n' text).filter fun l => !(trim (stripComment l)).isEmpty).mapM assemble

/-- A line of the test notation: an optional `@<t>`, the clock sample, then a command (R83). It has no encoding.
The first blank ends the sample, DESIGN CHOICE (log 13). -/
def scriptLine (line : List Char) : Option (Option Word × Instr) :=
  match trim line with
  | '@' :: rest =>
    (value (rest.takeWhile fun c => !isBlank c)).bind fun t =>
      (parse (rest.dropWhile fun c => !isBlank c)).map fun i => (some t, i)
  | cs => (parse cs).map fun i => (none, i)

end Sys2Proof.Asm
end

