-- ==== Sys2Proof/Safety.lean ====
section
/-! DEFINITION. What counts as a safe run: the invariant of the block's state (10_state.md R24, R31, R37 to R39), what an
observer sees (00_scope.md R16), which registers a comparison looks at, and the clock's premises (20_memory.md R57). -/

namespace Sys2Proof

/-- The pin operand of a command, where its format has one (30_encoding.md R73, R74). -/
def Instr.pinOperand : Instr → Option Pin
  | .gpioSetup pin _ | .gpioRead pin | .gpioWrite pin _ | .gpioHigh pin | .gpioLow pin => some pin
  | .pgInit pin _ _ | .mdInit pin _ => some pin
  | .pgRefresh | .pgSetOn _ | .pgSetOff _ => none
  | .mdRefresh | .mdSetFreq _ | .mdSetDuty _ | .mdForward | .mdBackward | .mdStop => none

namespace Machine

/-- The invariant of the block. -/
structure State.Inv (s : State) : Prop where
  /-- MD_READY implies PG_READY (R37) -/
  mapperNeedsGenerator : s.mdReady = true → s.pgReady = true
  /-- MD_READY implies MD_PERIOD at most 1000 (R38) -/
  periodBounded : s.mdReady = true → s.mdPeriod.toNat ≤ 1000
  /-- a ready generator is bound to a pin the platform has (R24) -/
  boundPinExists : s.pgReady = true → pinValid s.platform s.boundPin = true
  /-- FAULT_CAUSE holds one of the codes 0 to 6 (R31) -/
  causeLegal : s.faultCause.toNat ≤ 6
  /-- a ready generator has written the level of its phase to its pin (R39, in part) -/
  levelWritten : s.pgReady = true → Event.pinWrite s.boundPin s.pgPhase.level ∈ s.trace

/-- The registers of R35 hold the same values in both states; the trace, the channels and the draws are not compared. -/
structure State.SameRegisters (s t : State) : Prop where
  pgReady : t.pgReady = s.pgReady
  pgPort : t.pgPort = s.pgPort
  pgIndex : t.pgIndex = s.pgIndex
  pgPhase : t.pgPhase = s.pgPhase
  pgOnTime : t.pgOnTime = s.pgOnTime
  pgOffTime : t.pgOffTime = s.pgOffTime
  pgLastT : t.pgLastT = s.pgLastT
  mdReady : t.mdReady = s.mdReady
  mdPeriod : t.mdPeriod = s.mdPeriod
  faultCause : t.faultCause = s.faultCause
  faultCmd : t.faultCmd = s.faultCmd

/-- Two states that differ at most in registers that no command has written yet (R36): the six generator registers count
from PG_READY on, MD_PERIOD from MD_READY on, FAULT_CMD from a fault on; everything else is the same. -/
structure State.AgreeOnWritten (s t : State) : Prop where
  pgReady : t.pgReady = s.pgReady
  mdReady : t.mdReady = s.mdReady
  faultCause : t.faultCause = s.faultCause
  trace : t.trace = s.trace
  responses : t.responses = s.responses
  port : t.port = s.port
  platform : t.platform = s.platform
  clockIn : t.clockIn = s.clockIn
  clockDraws : t.clockDraws = s.clockDraws
  levelIn : t.levelIn = s.levelIn
  levelDraws : t.levelDraws = s.levelDraws
  generator : s.pgReady = true →
    t.pgPort = s.pgPort ∧ t.pgIndex = s.pgIndex ∧ t.pgPhase = s.pgPhase ∧ t.pgOnTime = s.pgOnTime ∧
      t.pgOffTime = s.pgOffTime ∧ t.pgLastT = s.pgLastT
  mapper : s.mdReady = true → t.mdPeriod = s.mdPeriod
  faultCmd : s.faultCause ≠ 0 → t.faultCmd = s.faultCmd

/-- Two outcomes no observer can tell apart: next states that agree on what has been written, or the same stop (R16). -/
def Result.Agree : Result → Result → Prop
  | .next s, .next t => s.AgreeOnWritten t
  | .fault f, .fault g => f = g
  | .refused r, .refused q => r = q
  | _, _ => False

/-- The premises of R57 on the real times, in milliseconds, at which the clock is sampled after a sample at `last`:
(a) they do not decrease; (b) each is less than 2^32 ms after `last`. -/
def ClockPremises (last : Nat) (times : List Nat) : Prop :=
  List.IsChain (· ≤ ·) (last :: times) ∧ ∀ t ∈ times, t - last < 2 ^ 32

/-- The sample the clock returns at a real time: its 32-bit count, which wraps (R56). -/
def sampleAt (time : Nat) : Word := BitVec.ofNat 32 time

end Machine

end Sys2Proof
end

