-- ==== Sys2Proof/Certificates/Slice0/Obligations.lean ====
section
/-! DEFINITION. The statements about the block, each from the rules of spec/ its docstring names. A command's W0 is written
out as OPC, PORT, INDEX, AUX (30_encoding.md R71). `sampleAt t` is the clock's 32-bit count at the real time `t`. -/

open Sys2Proof Sys2Proof.Machine

/-! ## Encoding -/

/-- 30_encoding.md R71 to R76: decoding an instruction's command gives the instruction back, every operand at every value. -/
def Obligations.DecodeEncodeRoundTrip : Prop :=
  ∀ i : Instr, decode (encode i) = .ok i

/-- R71 to R76: each command word has one meaning, so a command that decodes is the one its instruction encodes to. -/
def Obligations.DecodedCommandReencodes : Prop :=
  ∀ (c : Command) (i : Instr), decode c = .ok i → encode i = c

/-- R73, R76: the masks of R73 (which `decode` uses) and its columns of reserved fields (which `wellFormed` uses) accept the
same commands. -/
def Obligations.DecodeAcceptsExactlyWellFormed : Prop :=
  ∀ c : Command, (∃ i, decode c = .ok i) ↔ c.wellFormed = true

/-- R77: an opcode in an unassigned range takes ILLEGAL_COMMAND (code 1), and an assigned one with a reserved field that is
not zero takes RESERVED_BITS (code 2), whatever the ready bits are (R76); nothing else changes (60_exceptions.md R182). That
the fault is a next state and that the command's words have left the port is the model's (log 7, DEDUCED). -/
def Obligations.MalformedCommandFaults : Prop :=
  ∀ (s : State) (c : Command) (rest : List Word), s.halted = false → s.port = c.words ++ rest →
    (c.opcodeNat ≤ 0x0F ∨ 0x15 ≤ c.opcodeNat ∧ c.opcodeNat ≤ 0x1F ∨ 0x24 ≤ c.opcodeNat ∧ c.opcodeNat ≤ 0x2F ∨
        0x37 ≤ c.opcodeNat →
      step s = .next { s with port := rest, faultCause := 1, faultCmd := c }) ∧
    (c.opcodeAssigned = true → c.wellFormed = false →
      step s = .next { s with port := rest, faultCause := 2, faultCmd := c })

/-- 20_memory.md R52: the twelve bytes of a command, least significant byte of each word first and W0, W1, W2 in that order,
and any number of commands sent as bytes arrive as their words. -/
def Obligations.BytesCarryCommandWords : Prop :=
  (∀ w0 w1 w2 : Word, (Command.ofWords w0 w1 w2).bytes =
    [w0.extractLsb 7 0, w0.extractLsb 15 8, w0.extractLsb 23 16, w0.extractLsb 31 24,
     w1.extractLsb 7 0, w1.extractLsb 15 8, w1.extractLsb 23 16, w1.extractLsb 31 24,
     w2.extractLsb 7 0, w2.extractLsb 15 8, w2.extractLsb 23 16, w2.extractLsb 31 24]) ∧
  ∀ cs : List Command, wordsOfBytes (cs.flatMap Command.bytes) = cs.flatMap Command.words

/-- 30_encoding.md R84: the assembly of every row of its table gives the row's words, and its three faulting words fault at
decode with the cause it names. -/
def Obligations.EncodingExamplesHold : Prop :=
  Asm.assemble "gpio.setup P0.3, out".toList = some (Command.ofWords 0x10000301 0x00000000 0x00000000) ∧
  Asm.assemble "gpio.read PB.7".toList = some (Command.ofWords 0x11010700 0x00000000 0x00000000) ∧
  Asm.assemble "gpio.write P2.9, 1".toList = some (Command.ofWords 0x12020900 0x00000001 0x00000000) ∧
  Asm.assemble "gpio.high P0.3".toList = some (Command.ofWords 0x13000300 0x00000000 0x00000000) ∧
  Asm.assemble "gpio.low P0.3".toList = some (Command.ofWords 0x14000300 0x00000000 0x00000000) ∧
  Asm.assemble "pg.init P0.3, 10, 20".toList = some (Command.ofWords 0x20000300 0x0000000A 0x00000014) ∧
  Asm.assemble "pg.refresh".toList = some (Command.ofWords 0x21000000 0x00000000 0x00000000) ∧
  Asm.assemble "pg.seton 0".toList = some (Command.ofWords 0x22000000 0x00000000 0x00000000) ∧
  Asm.assemble "pg.setoff 1000".toList = some (Command.ofWords 0x23000000 0x000003E8 0x00000000) ∧
  Asm.assemble "md.init P1.0, 50".toList = some (Command.ofWords 0x30010000 0x00000032 0x00000000) ∧
  Asm.assemble "md.refresh".toList = some (Command.ofWords 0x31000000 0x00000000 0x00000000) ∧
  Asm.assemble "md.setfreq 3".toList = some (Command.ofWords 0x32000000 0x00000003 0x00000000) ∧
  Asm.assemble "md.setduty 0.5".toList = some (Command.ofWords 0x33000000 0x00008000 0x00000000) ∧
  Asm.assemble "md.setduty 1".toList = some (Command.ofWords 0x33000000 0x00010000 0x00000000) ∧
  Asm.assemble "md.setduty -0.25".toList = some (Command.ofWords 0x33000000 0xFFFFC000 0x00000000) ∧
  Asm.assemble "md.setduty 1.5".toList = some (Command.ofWords 0x33000000 0x00018000 0x00000000) ∧
  Asm.assemble "md.forward".toList = some (Command.ofWords 0x34000000 0x00000000 0x00000000) ∧
  Asm.assemble "md.backward".toList = some (Command.ofWords 0x35000000 0x00000000 0x00000000) ∧
  Asm.assemble "md.stop".toList = some (Command.ofWords 0x36000000 0x00000000 0x00000000) ∧
  decode (Command.ofWords 0x00000000 0x00000000 0x00000000) = .error .illegalCommand ∧
  decode (Command.ofWords 0x21000001 0x00000000 0x00000000) = .error .reservedBits ∧
  decode (Command.ofWords 0x22000000 0x00000005 0x00000001) = .error .reservedBits

/-- R79: whatever a line says, the command it assembles to has every reserved field zero and decodes to an instruction. -/
def Obligations.AssembledCommandDecodes : Prop :=
  ∀ (line : List Char) (c : Command), Asm.assemble line = some c → c.wellFormed = true ∧ ∃ i, decode c = .ok i

/-- The model's convention for table words (log 9) and for placing a command (log 8): the table's word of an instruction
decodes to it, and a running block with that word placed executes exactly it. -/
def Obligations.TableWordRunsItsInstruction : Prop :=
  ∀ i : Instr, decodeTableWord 96 (encode i).toNat = some i ∧
    ∀ s : State, s.halted = false → step (s.withFetchWord 96 (encode i).toNat) = exec i s

/-! ## Steps, reset, faults -/

/-- 20_memory.md R51: fewer than three words on the port have no effect; three words that decode to an instruction are
executed as that instruction, with the words after them left on the port; a malformed command is three words too; and a
command may arrive in pieces. The model's own in this: that a block whose port holds no whole command takes a step that
changes nothing (log 5, DEDUCED), that a malformed command's words leave the port (log 7, DEDUCED), and the port as an
unbounded list of words (log 8, DESIGN CHOICE). -/
def Obligations.StepRunsDecodedCommand : Prop :=
  (∀ s : State, s.halted = false → s.port.length < 3 → step s = .next s) ∧
  (∀ (s : State) (w0 w1 w2 : Word) (rest : List Word) (i : Instr), s.halted = false → s.port = w0 :: w1 :: w2 :: rest →
    decode (Command.ofWords w0 w1 w2) = .ok i → step s = exec i { s with port := rest }) ∧
  (∀ (s : State) (w0 w1 w2 : Word) (rest : List Word) (e : DecodeFault), s.halted = false →
    s.port = w0 :: w1 :: w2 :: rest → decode (Command.ofWords w0 w1 w2) = .error e →
    ∃ t, step s = .next t ∧ t.port = rest ∧ t.faultCmd = Command.ofWords w0 w1 w2) ∧
  (∀ (s : State) (ws vs : List Word), (s.receive ws).receive vs = s.receive (ws ++ vs))

/-- 10_state.md R33: halted is exactly FAULT_CAUSE not 0, and a halted block takes no step, on any command. -/
def Obligations.HaltedBlockTakesNoStep : Prop :=
  (∀ s : State, s.halted = true ↔ s.faultCause ≠ 0) ∧
  ∀ s : State, s.halted = true → step s = .fault .halted ∧ ∀ i : Instr, exec i s = .fault .halted

/-- 20_memory.md R60: two commands on the port execute in the order they arrived, the second on all the effects of the
first. That both wait on the port at once is the model's (log 8, DESIGN CHOICE). -/
def Obligations.CommandsRunInArrivalOrder : Prop :=
  ∀ (s t : State) (i j : Instr) (rest : List Word), s.halted = false →
    s.port = (encode i).words ++ (encode j).words ++ rest →
    exec i { s with port := (encode j).words ++ rest } = .next t → t.halted = false →
    t.port = (encode j).words ++ rest ∧ Host.Core.run core 2 s = exec j { t with port := rest }

/-- 60_exceptions.md R182: when the step that executes a command leaves a fault, the state is the state before with
FAULT_CAUSE (a code 1 to 6) and FAULT_CMD (that command) written and nothing else, and no step follows. The clause
`port := rest`, that the faulting command's words have left the port, is the model's and not R182's (log 7, DEDUCED). -/
def Obligations.FaultIsPrecise : Prop :=
  ∀ (s t : State) (c : Command) (rest : List Word), s.halted = false → s.port = c.words ++ rest → step s = .next t →
    t.faultCause ≠ 0 →
    t = { s with port := rest, faultCause := t.faultCause, faultCmd := c } ∧
      1 ≤ t.faultCause.toNat ∧ t.faultCause.toNat ≤ 6 ∧ step t = .fault .halted

/-- R181, R183: which fault a decoded command takes. INVALID_PIN exactly when its pin operand is not valid; ZERO_FREQUENCY
exactly on f = 0 in MD.INIT with a valid pin or in an initialized MD.SETFREQ; INVALID_MODE and INVALID_VALUE exactly as
their rows say, after the pin; no decode code; and no fault otherwise. -/
def Obligations.FaultExactlyWhenItsCauseHolds : Prop :=
  ∀ (s t : State) (i : Instr), s.halted = false → exec i s = .next t →
    (t.faultCause = 3 ↔ ∃ pin, i.pinOperand = some pin ∧ pinValid s.platform pin = false) ∧
    (t.faultCause = 4 ↔ (∃ pin, i = .mdInit pin 0 ∧ pinValid s.platform pin = true) ∨
      i = .mdSetFreq 0 ∧ s.mdReady = true) ∧
    (t.faultCause = 5 ↔ ∃ pin mode, i = .gpioSetup pin mode ∧ pinValid s.platform pin = true ∧
      modeValid s.platform mode = false) ∧
    (t.faultCause = 6 ↔ ∃ pin value, i = .gpioWrite pin value ∧ pinValid s.platform pin = true ∧
      2 ≤ value.toNat ∧ analogWriteCapable s.platform pin = false) ∧
    (t.faultCause = 0 ∨ t.faultCause = 3 ∨ t.faultCause = 4 ∨ t.faultCause = 5 ∨ t.faultCause = 6)

/-- R187: every command is legal in every state but the halted one: it answers a next state, since taking an operand fault is
one (R182; log 7, DEDUCED). So does every step: on a malformed command the fault taken at decode (30_encoding.md R76; log 7),
and on a port without a whole command the step that waits, which is the model's (20_memory.md R51; log 5, DEDUCED). -/
def Obligations.RunningBlockAlwaysSteps : Prop :=
  (∀ (i : Instr) (s : State), s.halted = false → ∃ t, exec i s = .next t) ∧
  ∀ s : State, s.halted = false → ∃ t, step s = .next t

/-- 70_reset_and_hazards.md R200 to R202: after reset, on any platform, both ready bits and FAULT_CAUSE are 0, the trace and
the port are empty, and the block waits, not halted. Reset at any time does the same on the platform it stands on; what it
does to whole commands that wait and to the channels is the model's (log 10). -/
def Obligations.ResetLeavesBlockWaiting : Prop :=
  (∀ p : Platform,
    (State.resetOn p).pgReady = false ∧ (State.resetOn p).mdReady = false ∧ (State.resetOn p).faultCause = 0 ∧
    (State.resetOn p).trace = [] ∧ (State.resetOn p).port = [] ∧ (State.resetOn p).platform = p ∧
    (State.resetOn p).halted = false ∧ step (State.resetOn p) = .next (State.resetOn p)) ∧
  ∀ s : State,
    s.resetBlock.pgReady = false ∧ s.resetBlock.mdReady = false ∧ s.resetBlock.faultCause = 0 ∧
    s.resetBlock.trace = [] ∧ s.resetBlock.port = [] ∧ s.resetBlock.platform = s.platform ∧
    s.resetBlock.halted = false ∧ step s.resetBlock = .next s.resetBlock

/-! ## Invariants -/

/-- The invariant holds after reset, on any platform, and after reset at any time. -/
def Obligations.ResetMeetsTheInvariant : Prop :=
  (∀ p : Platform, (State.resetOn p).Inv) ∧ ∀ s : State, s.resetBlock.Inv

/-- 10_state.md R24, R31, R37, R38, R39: every step keeps the invariant, in every state that meets it. -/
def Obligations.StepKeepsTheInvariant : Prop :=
  ∀ s t : State, s.Inv → step s = .next t → t.Inv

/-- R37, R38: whatever words the host sends and whatever samples and levels the platform answers, at every point of a run
from reset MD_READY implies PG_READY and MD_PERIOD at most 1000. -/
def Obligations.MapperReadyImpliesGeneratorReadyAndPeriod : Prop :=
  ∀ (p : Platform) (ws samples : List Word) (levels : List Level) (k : Nat) (t : State),
    Host.Core.run core k { State.resetOn p with port := ws, clockIn := samples, levelIn := levels } = .next t →
    t.mdReady = true → t.pgReady = true ∧ t.mdPeriod.toNat ≤ 1000

/-- R35, its column "written by": a command that changes a register is one of the register's writers; the fault registers
change only when the command faults. No command clears a ready bit (R23, R29). -/
def Obligations.RegistersChangeOnlyByTheirWriters : Prop :=
  ∀ (s t : State) (i : Instr), exec i s = .next t →
    (t.pgReady ≠ s.pgReady → t.pgReady = true ∧ ((∃ p a b, i = .pgInit p a b) ∨ ∃ p f, i = .mdInit p f)) ∧
    (t.pgPort ≠ s.pgPort ∨ t.pgIndex ≠ s.pgIndex → (∃ p a b, i = .pgInit p a b) ∨ ∃ p f, i = .mdInit p f) ∧
    (t.pgPhase ≠ s.pgPhase ∨ t.pgLastT ≠ s.pgLastT →
      (∃ p a b, i = .pgInit p a b) ∨ (∃ p f, i = .mdInit p f) ∨ i = .pgRefresh ∨ i = .mdRefresh) ∧
    (t.pgOnTime ≠ s.pgOnTime →
      (∃ p a b, i = .pgInit p a b) ∨ (∃ d, i = .pgSetOn d) ∨ (∃ p f, i = .mdInit p f) ∨ ∃ d, i = .mdSetDuty d) ∧
    (t.pgOffTime ≠ s.pgOffTime →
      (∃ p a b, i = .pgInit p a b) ∨ (∃ d, i = .pgSetOff d) ∨ (∃ p f, i = .mdInit p f) ∨ ∃ d, i = .mdSetDuty d) ∧
    (t.mdReady ≠ s.mdReady → t.mdReady = true ∧ ∃ p f, i = .mdInit p f) ∧
    (t.mdPeriod ≠ s.mdPeriod → (∃ p f, i = .mdInit p f) ∨ ∃ f, i = .mdSetFreq f) ∧
    (t.faultCause ≠ s.faultCause ∨ t.faultCmd ≠ s.faultCmd → t.halted = true)

/-- 20_memory.md R56: a command draws at most one clock sample, and only PG.INIT, PG.REFRESH, MD.INIT and MD.REFRESH draw
one; only GPIO.READ draws a level (R58); no command touches the words on the port or the platform. -/
def Obligations.InputsAreDrawnAtMostOnce : Prop :=
  ∀ (s t : State) (i : Instr), exec i s = .next t →
    t.port = s.port ∧ t.platform = s.platform ∧
    ((t.clockIn = s.clockIn ∧ t.clockDraws = s.clockDraws) ∨
      (t.clockIn = s.clockIn.tail ∧ t.clockDraws = s.clockDraws + 1 ∧
        ((∃ p a b, i = .pgInit p a b) ∨ (∃ p f, i = .mdInit p f) ∨ i = .pgRefresh ∨ i = .mdRefresh))) ∧
    ((t.levelIn = s.levelIn ∧ t.levelDraws = s.levelDraws) ∨
      (t.levelIn = s.levelIn.tail ∧ t.levelDraws = s.levelDraws + 1 ∧ ∃ p, i = .gpioRead p))

/-- 10_state.md R34, 20_memory.md R59, R61: a command appends at most one event to the trace and takes none away; only
GPIO.READ returns a value, one, appended after the earlier ones. -/
def Obligations.TraceAndResponsesOnlyGrow : Prop :=
  ∀ (s t : State) (i : Instr), exec i s = .next t →
    (∃ evs, t.trace = s.trace ++ evs ∧ evs.length ≤ 1) ∧
    (t.responses = s.responses ∨ ∃ p, i = .gpioRead p ∧ t.responses = s.responses ++ [s.pinLevel p])

/-- 10_state.md R36: two runs whose registers differ only where no command has written yet cannot be told apart, at any
number of steps: so no rule reads a register before a rule writes it, and the values reset leaves there (log 1) never show. -/
def Obligations.UnwrittenRegistersAreNeverRead : Prop :=
  ∀ (k : Nat) (s t : State), s.AgreeOnWritten t → Result.Agree (Host.Core.run core k s) (Host.Core.run core k t)

/-- 20_memory.md R67: a command executed again with the same operands and the same clock sample leaves the registers as the
first execution left them; for the refresh commands where the active duration is not 0 and the first made no transition. -/
def Obligations.RepeatedCommandLeavesRegisters : Prop :=
  ∀ (s t u : State) (i : Instr), exec i s = .next t → t.halted = false → t.clockSample = s.clockSample →
    (i = .pgRefresh ∨ i = .mdRefresh → t.activeDuration ≠ 0 ∧ t.pgPhase = s.pgPhase) →
    exec i t = .next u → t.SameRegisters u

/-! ## GPIO gateway -/

/-- 40_gpio.md R103. -/
def Obligations.GpioSetupConfiguresPin : Prop :=
  ∀ (pin : Pin) (mode : Byte) (s : State), s.halted = false →
    decode (Command.ofWords (0x10#8 ++ pin.port ++ pin.index ++ mode) 0 0) = .ok (.gpioSetup pin mode) ∧
    (pinValid s.platform pin = true → modeValid s.platform mode = true →
      exec (.gpioSetup pin mode) s = .next { s with trace := s.trace ++ [.pinSetup pin mode] }) ∧
    (pinValid s.platform pin = false →
      exec (.gpioSetup pin mode) s = .next { s with
        faultCause := 3, faultCmd := Command.ofWords (0x10#8 ++ pin.port ++ pin.index ++ mode) 0 0 }) ∧
    (pinValid s.platform pin = true → modeValid s.platform mode = false →
      exec (.gpioSetup pin mode) s = .next { s with
        faultCause := 5, faultCmd := Command.ofWords (0x10#8 ++ pin.port ++ pin.index ++ mode) 0 0 }) ∧
    (mode.toNat ≤ 2 → modeValid s.platform mode = true) ∧
    (3 ≤ mode.toNat → (modeValid s.platform mode = true ↔ mode ∈ s.platform.furtherModes))

/-- R104: the event, then one level draw `v`, whatever it is, then the response `v`. -/
def Obligations.GpioReadReturnsDrawnLevel : Prop :=
  ∀ (pin : Pin) (s : State), s.halted = false →
    decode (Command.ofWords (0x11#8 ++ pin.port ++ pin.index ++ 0#8) 0 0) = .ok (.gpioRead pin) ∧
    (pinValid s.platform pin = true →
      exec (.gpioRead pin) s = .next { s with
        trace := s.trace ++ [.pinRead pin], responses := s.responses ++ [s.pinLevel pin],
        levelIn := s.levelIn.tail, levelDraws := s.levelDraws + 1 }) ∧
    (pinValid s.platform pin = false →
      exec (.gpioRead pin) s = .next { s with
        faultCause := 3, faultCmd := Command.ofWords (0x11#8 ++ pin.port ++ pin.index ++ 0#8) 0 0 }) ∧
    (∀ (v : Level) (vs : List Level), s.levelIn = v :: vs → s.pinLevel pin = v)

/-- R105: the three arms of its pseudocode. -/
def Obligations.GpioWriteDrivesPin : Prop :=
  ∀ (pin : Pin) (value : Word) (s : State), s.halted = false →
    decode (Command.ofWords (0x12#8 ++ pin.port ++ pin.index ++ 0#8) value 0) = .ok (.gpioWrite pin value) ∧
    (pinValid s.platform pin = true → value.toNat ≤ 1 →
      exec (.gpioWrite pin value) s = .next { s with trace := s.trace ++ [.pinWrite pin value] }) ∧
    (pinValid s.platform pin = true → analogWriteCapable s.platform pin = true →
      exec (.gpioWrite pin value) s = .next { s with trace := s.trace ++ [.pinWrite pin value] }) ∧
    (pinValid s.platform pin = true → 2 ≤ value.toNat → analogWriteCapable s.platform pin = false →
      exec (.gpioWrite pin value) s = .next { s with
        faultCause := 6, faultCmd := Command.ofWords (0x12#8 ++ pin.port ++ pin.index ++ 0#8) value 0 }) ∧
    (pinValid s.platform pin = false →
      exec (.gpioWrite pin value) s = .next { s with
        faultCause := 3, faultCmd := Command.ofWords (0x12#8 ++ pin.port ++ pin.index ++ 0#8) value 0 })

/-- R106, with the equality to GPIO.WRITE of 1 on every valid pin. -/
def Obligations.GpioHighDrivesPinHigh : Prop :=
  ∀ (pin : Pin) (s : State), s.halted = false →
    decode (Command.ofWords (0x13#8 ++ pin.port ++ pin.index ++ 0#8) 0 0) = .ok (.gpioHigh pin) ∧
    (pinValid s.platform pin = true →
      exec (.gpioHigh pin) s = .next { s with trace := s.trace ++ [.pinWrite pin 1] } ∧
      exec (.gpioHigh pin) s = exec (.gpioWrite pin 1) s) ∧
    (pinValid s.platform pin = false →
      exec (.gpioHigh pin) s = .next { s with
        faultCause := 3, faultCmd := Command.ofWords (0x13#8 ++ pin.port ++ pin.index ++ 0#8) 0 0 })

/-- R107, with the equality to GPIO.WRITE of 0 on every valid pin. -/
def Obligations.GpioLowDrivesPinLow : Prop :=
  ∀ (pin : Pin) (s : State), s.halted = false →
    decode (Command.ofWords (0x14#8 ++ pin.port ++ pin.index ++ 0#8) 0 0) = .ok (.gpioLow pin) ∧
    (pinValid s.platform pin = true →
      exec (.gpioLow pin) s = .next { s with trace := s.trace ++ [.pinWrite pin 0] } ∧
      exec (.gpioLow pin) s = exec (.gpioWrite pin 0) s) ∧
    (pinValid s.platform pin = false →
      exec (.gpioLow pin) s = .next { s with
        faultCause := 3, faultCmd := Command.ofWords (0x14#8 ++ pin.port ++ pin.index ++ 0#8) 0 0 })

/-- R102: a gateway command that does not fault changes no register, and what it does (the events it emits, the values it
returns) does not depend on any register: two running blocks on one platform with the same levels to come do the same,
and fault together. -/
def Obligations.GatewayIsStateless : Prop :=
  ∀ (s s' t : State) (i : Instr),
    ((∃ p m, i = .gpioSetup p m) ∨ (∃ p, i = .gpioRead p) ∨ (∃ p v, i = .gpioWrite p v) ∨ (∃ p, i = .gpioHigh p) ∨
      ∃ p, i = .gpioLow p) →
    s.halted = false → s'.halted = false → s'.platform = s.platform → s'.levelIn = s.levelIn →
    s'.levelDraws = s.levelDraws → exec i s = .next t →
    (t.halted = false → s.SameRegisters t) ∧
    ∃ t' evs vs, exec i s' = .next t' ∧ t'.faultCause = t.faultCause ∧
      t.trace = s.trace ++ evs ∧ t'.trace = s'.trace ++ evs ∧
      t.responses = s.responses ++ vs ∧ t'.responses = s'.responses ++ vs

/-- R108: a write of `value` to the bound pin of a ready generator executes as written and changes no register, and the
next refresh does to the registers and the pin what it would have done without it. -/
def Obligations.BoundPinWriteLeavesGenerator : Prop :=
  ∀ (s t : State) (i : Instr) (value : Word), s.pgReady = true → s.halted = false →
    (i = .gpioWrite s.boundPin value ∨ i = .gpioHigh s.boundPin ∧ value = 1 ∨ i = .gpioLow s.boundPin ∧ value = 0) →
    exec i s = .next t → t.halted = false →
    t.trace = s.trace ++ [.pinWrite s.boundPin value] ∧ s.SameRegisters t ∧
    ∃ u v evs, exec .pgRefresh s = .next u ∧ exec .pgRefresh t = .next v ∧ u.SameRegisters v ∧
      u.trace = s.trace ++ evs ∧ v.trace = t.trace ++ evs

/-! ## Pulse generator -/

/-- 41_pulse_generator.md R128. -/
def Obligations.PgInitStartsGeneratorInOff : Prop :=
  ∀ (pin : Pin) (on off : Word) (s : State), s.halted = false →
    decode (Command.ofWords (0x20#8 ++ pin.port ++ pin.index ++ 0#8) on off) = .ok (.pgInit pin on off) ∧
    (pinValid s.platform pin = true →
      exec (.pgInit pin on off) s = .next { s with
        pgReady := true, pgPort := pin.port, pgIndex := pin.index, pgPhase := .off, pgOnTime := on, pgOffTime := off,
        pgLastT := s.clockSample, trace := s.trace ++ [.pinWrite pin 0],
        clockIn := s.clockIn.tail, clockDraws := s.clockDraws + 1 }) ∧
    (pinValid s.platform pin = false →
      exec (.pgInit pin on off) s = .next { s with
        faultCause := 3, faultCmd := Command.ofWords (0x20#8 ++ pin.port ++ pin.index ++ 0#8) on off })

/-- R129, with R122 to R125: the four cases of a ready generator, and the no-op of one that is not. The elapsed time is the
difference of the sample and PG_LAST_T modulo 2^32; the comparison is unsigned. -/
def Obligations.PgRefreshMakesDueTransition : Prop :=
  decode (Command.ofWords 0x21000000 0 0) = .ok .pgRefresh ∧
  ∀ s : State, s.halted = false →
    (s.pgReady = false → exec .pgRefresh s = .next s) ∧
    (s.pgReady = true → s.pgPhase = .off → s.pgOffTime.toNat ≤ (s.clockSample - s.pgLastT).toNat →
      exec .pgRefresh s = .next { s with
        pgPhase := .on, pgLastT := s.clockSample, trace := s.trace ++ [.pinWrite ⟨s.pgPort, s.pgIndex⟩ 1],
        clockIn := s.clockIn.tail, clockDraws := s.clockDraws + 1 }) ∧
    (s.pgReady = true → s.pgPhase = .on → s.pgOnTime.toNat ≤ (s.clockSample - s.pgLastT).toNat →
      exec .pgRefresh s = .next { s with
        pgPhase := .off, pgLastT := s.clockSample, trace := s.trace ++ [.pinWrite ⟨s.pgPort, s.pgIndex⟩ 0],
        clockIn := s.clockIn.tail, clockDraws := s.clockDraws + 1 }) ∧
    (s.pgReady = true →
      (s.pgPhase = .off ∧ (s.clockSample - s.pgLastT).toNat < s.pgOffTime.toNat ∨
        s.pgPhase = .on ∧ (s.clockSample - s.pgLastT).toNat < s.pgOnTime.toNat) →
      exec .pgRefresh s = .next { s with clockIn := s.clockIn.tail, clockDraws := s.clockDraws + 1 })

/-- R130. -/
def Obligations.PgSetOnWritesOnTime : Prop :=
  ∀ (d : Word) (s : State), s.halted = false →
    decode (Command.ofWords 0x22000000 d 0) = .ok (.pgSetOn d) ∧
    (s.pgReady = true → exec (.pgSetOn d) s = .next { s with pgOnTime := d }) ∧
    (s.pgReady = false → exec (.pgSetOn d) s = .next s)

/-- R131. -/
def Obligations.PgSetOffWritesOffTime : Prop :=
  ∀ (d : Word) (s : State), s.halted = false →
    decode (Command.ofWords 0x23000000 d 0) = .ok (.pgSetOff d) ∧
    (s.pgReady = true → exec (.pgSetOff d) s = .next { s with pgOffTime := d }) ∧
    (s.pgReady = false → exec (.pgSetOff d) s = .next s)

/-- R124: a refresh at a real time less than 2^32 ms after the last transition sees the true elapsed time, wrapped clock or
not, so it makes a transition exactly when that many milliseconds reach the active duration. -/
def Obligations.ElapsedTimeSurvivesClockWrap : Prop :=
  ∀ (s : State) (last elapsed : Nat) (rest : List Word), s.halted = false → s.pgReady = true → elapsed < 2 ^ 32 →
    s.pgLastT = sampleAt last → s.clockIn = sampleAt (last + elapsed) :: rest →
    (s.elapsed s.clockSample).toNat = elapsed ∧
    ∃ t, exec .pgRefresh s = .next t ∧
      (t.pgPhase ≠ s.pgPhase ↔ s.activeDuration.toNat ≤ elapsed) ∧
      (s.activeDuration.toNat ≤ elapsed → t.pgLastT = sampleAt (last + elapsed))

/-- R126, R135: of two refreshes, the first of which enters a phase whose duration is 0, the second leaves it, at any sample;
each makes one transition, so the pin shows the zero phase's level between them and is never stuck there. -/
def Obligations.ZeroDurationPhaseIsLeftAtNextRefresh : Prop :=
  ∀ s t : State, s.halted = false → s.pgReady = true → exec .pgRefresh s = .next t → t.pgPhase ≠ s.pgPhase →
    t.activeDuration = 0 →
    t.trace = s.trace ++ [.pinWrite s.boundPin t.pgPhase.level] ∧
    ∃ u, exec .pgRefresh t = .next u ∧ u.pgPhase = s.pgPhase ∧ u.pgLastT = t.clockSample ∧
      u.trace = t.trace ++ [.pinWrite s.boundPin s.pgPhase.level]

/-- R132: a setter moves no baseline. The next refresh compares the time since the phase began with the new duration, and a
setter for the phase not in progress leaves the next refresh's transition as it was, and its duration is the active one
from that transition on. -/
def Obligations.SetterIsHonouredAtNextComparison : Prop :=
  ∀ (s t u : State) (i : Instr) (d : Word), s.halted = false → s.pgReady = true →
    (i = .pgSetOn d ∨ i = .pgSetOff d) → exec i s = .next t → exec .pgRefresh t = .next u →
    (i = .pgSetOn d → t = { s with pgOnTime := d }) ∧ (i = .pgSetOff d → t = { s with pgOffTime := d }) ∧
    ((i = .pgSetOn d ∧ s.pgPhase = .on ∨ i = .pgSetOff d ∧ s.pgPhase = .off) →
      (u.pgPhase ≠ s.pgPhase ↔ d.toNat ≤ (s.clockSample - s.pgLastT).toNat)) ∧
    ((i = .pgSetOn d ∧ s.pgPhase = .off ∨ i = .pgSetOff d ∧ s.pgPhase = .on) →
      (u.pgPhase ≠ s.pgPhase ↔ s.activeDuration.toNat ≤ (s.clockSample - s.pgLastT).toNat) ∧
      (u.pgPhase ≠ s.pgPhase → u.activeDuration = d))

/-- R133: a refresh with 0 ms elapsed, or with less than the active duration, makes no transition and emits no event where
the active duration is not 0; where it is 0 the refresh makes one transition. -/
def Obligations.RefreshBeforeDueIsIdempotent : Prop :=
  ∀ s : State, s.halted = false → s.pgReady = true →
    (s.activeDuration ≠ 0 →
      (s.clockSample = s.pgLastT ∨
        0 < (s.clockSample - s.pgLastT).toNat ∧ (s.clockSample - s.pgLastT).toNat < s.activeDuration.toNat) →
      ∃ t, exec .pgRefresh s = .next t ∧ s.SameRegisters t ∧ t.trace = s.trace) ∧
    (s.activeDuration = 0 →
      ∃ t, exec .pgRefresh s = .next t ∧ t.pgPhase = s.pgPhase.flip ∧ t.pgLastT = s.clockSample ∧
        t.trace = s.trace ++ [.pinWrite s.boundPin s.pgPhase.flip.level])

/-- R134, under the premises of 20_memory.md R57: a phase entered at the real time `last` and polled at the real times
`times` and then `final`. While no poll reaches the duration the phase goes on, with no event; it ends at the first poll
that does, and lasted at least the duration and less than the duration plus the last polling gap. -/
def Obligations.PhaseLengthUnderPolling : Prop :=
  ∀ (s : State) (last final : Nat) (times : List Nat) (rest : List Word), s.halted = false → s.pgReady = true →
    s.pgLastT = sampleAt last → ClockPremises last (times ++ [final]) →
    s.clockIn = (times ++ [final]).map sampleAt →
    s.port = (List.replicate (times.length + 1) (encode .pgRefresh)).flatMap Command.words ++ rest →
    (∀ t ∈ times, t - last < s.activeDuration.toNat) →
    ∃ t u : State,
      Host.Core.run core times.length s = .next t ∧ s.SameRegisters t ∧ t.trace = s.trace ∧
      Host.Core.run core (times.length + 1) s = .next u ∧
      (final - last < s.activeDuration.toNat → s.SameRegisters u ∧ u.trace = s.trace) ∧
      (s.activeDuration.toNat ≤ final - last →
        u.pgPhase = s.pgPhase.flip ∧ u.pgLastT = sampleAt final ∧
        u.trace = s.trace ++ [.pinWrite s.boundPin s.pgPhase.flip.level] ∧
        (0 < s.activeDuration.toNat →
          final - last < s.activeDuration.toNat + (final - times.getLastD last)))

/-- R25, R39, R125: a command either leaves the binding and the phase alone, or it emits exactly one event, the write of the
new phase's level to the bound pin; and every event of a command that is no gateway command is such a write. -/
def Obligations.PhaseChangesDriveTheBoundPin : Prop :=
  ∀ (s t : State) (i : Instr), exec i s = .next t →
    ((t.boundPin = s.boundPin ∧ t.pgPhase = s.pgPhase) ∨
      t.trace = s.trace ++ [.pinWrite t.boundPin t.pgPhase.level]) ∧
    (t.trace = s.trace ∨ t.trace = s.trace ++ [.pinWrite t.boundPin t.pgPhase.level] ∨
      (∃ p m, i = .gpioSetup p m) ∨ (∃ p, i = .gpioRead p) ∨ (∃ p v, i = .gpioWrite p v) ∨ (∃ p, i = .gpioHigh p) ∨
      ∃ p, i = .gpioLow p)

/-- R121, 42_duty_mapper.md R151: before the generator's or the mapper's init, its other commands change nothing at all, not
even a draw, whatever their operands and whatever the other ready bit; a malformed command still faults
(`MalformedCommandFaults`). -/
def Obligations.UninitializedCommandsAreNoOps : Prop :=
  ∀ s : State, s.halted = false →
    (s.pgReady = false → ∀ d : Word,
      exec .pgRefresh s = .next s ∧ exec (.pgSetOn d) s = .next s ∧ exec (.pgSetOff d) s = .next s) ∧
    (s.mdReady = false → ∀ d : Word,
      exec .mdRefresh s = .next s ∧ exec (.mdSetFreq d) s = .next s ∧ exec (.mdSetDuty d) s = .next s)

/-! ## Duty-cycle mapper -/

/-- 42_duty_mapper.md R155: whatever MD_READY is; INVALID_PIN before ZERO_FREQUENCY. -/
def Obligations.MdInitStartsMapper : Prop :=
  ∀ (pin : Pin) (f : Word) (s : State), s.halted = false →
    decode (Command.ofWords (0x30#8 ++ pin.port ++ pin.index ++ 0#8) f 0) = .ok (.mdInit pin f) ∧
    (pinValid s.platform pin = true → f ≠ 0 →
      exec (.mdInit pin f) s = .next { s with
        mdReady := true, mdPeriod := BitVec.ofNat 32 (1000 / f.toNat),
        pgReady := true, pgPort := pin.port, pgIndex := pin.index, pgPhase := .off,
        pgOnTime := 0, pgOffTime := BitVec.ofNat 32 (1000 / f.toNat),
        pgLastT := s.clockSample, trace := s.trace ++ [.pinWrite pin 0],
        clockIn := s.clockIn.tail, clockDraws := s.clockDraws + 1 }) ∧
    (pinValid s.platform pin = true → f = 0 →
      exec (.mdInit pin f) s = .next { s with
        faultCause := 4, faultCmd := Command.ofWords (0x30#8 ++ pin.port ++ pin.index ++ 0#8) f 0 }) ∧
    (pinValid s.platform pin = false →
      exec (.mdInit pin f) s = .next { s with
        faultCause := 3, faultCmd := Command.ofWords (0x30#8 ++ pin.port ++ pin.index ++ 0#8) f 0 })

/-- R156: the body of PG.REFRESH when the mapper is ready, else nothing. With both ready it makes the transition or draws
the sample, as PG.REFRESH does. -/
def Obligations.MdRefreshDelegatesToGenerator : Prop :=
  decode (Command.ofWords 0x31000000 0 0) = .ok .mdRefresh ∧
  ∀ s : State, s.halted = false →
    (s.mdReady = false → exec .mdRefresh s = .next s) ∧
    (s.mdReady = true → exec .mdRefresh s = exec .pgRefresh s) ∧
    (s.mdReady = true → s.pgReady = true → s.activeDuration.toNat ≤ (s.clockSample - s.pgLastT).toNat →
      exec .mdRefresh s = .next { s with
        pgPhase := s.pgPhase.flip, pgLastT := s.clockSample,
        trace := s.trace ++ [.pinWrite ⟨s.pgPort, s.pgIndex⟩ s.pgPhase.flip.level],
        clockIn := s.clockIn.tail, clockDraws := s.clockDraws + 1 }) ∧
    (s.mdReady = true → s.pgReady = true → (s.clockSample - s.pgLastT).toNat < s.activeDuration.toNat →
      exec .mdRefresh s = .next { s with clockIn := s.clockIn.tail, clockDraws := s.clockDraws + 1 })

/-- R157: the period only; f = 0 faults once the mapper is ready and is a no-op before. -/
def Obligations.MdSetFreqRecomputesPeriodOnly : Prop :=
  ∀ (f : Word) (s : State), s.halted = false →
    decode (Command.ofWords 0x32000000 f 0) = .ok (.mdSetFreq f) ∧
    (s.mdReady = true → f ≠ 0 →
      exec (.mdSetFreq f) s = .next { s with mdPeriod := BitVec.ofNat 32 (1000 / f.toNat) }) ∧
    (s.mdReady = true → f = 0 →
      exec (.mdSetFreq f) s = .next { s with faultCause := 4, faultCmd := Command.ofWords 0x32000000 f 0 }) ∧
    (s.mdReady = false → exec (.mdSetFreq f) s = .next s)

/-- R158, R154: the two durations for the operand read as a signed Q16.16 number, clamped between 0 and 65536, on exact
integers; nothing else changes. -/
def Obligations.MdSetDutySetsDurations : Prop :=
  ∀ (d : Word) (s : State), s.halted = false →
    decode (Command.ofWords 0x33000000 d 0) = .ok (.mdSetDuty d) ∧
    (s.mdReady = false → exec (.mdSetDuty d) s = .next s) ∧
    (s.mdReady = true → ∃ on off : Word,
      (on.toNat : Int) = (s.mdPeriod.toNat : Int) * min (max d.toInt 0) 65536 / 65536 ∧
      (off.toNat : Int) = (s.mdPeriod.toNat : Int) - (on.toNat : Int) ∧
      exec (.mdSetDuty d) s = .next { s with pgOnTime := on, pgOffTime := off })

/-- R159 to R161: the three direction hooks change nothing, in any running state. -/
def Obligations.DirectionHooksAreNoOps : Prop :=
  decode (Command.ofWords 0x34000000 0 0) = .ok .mdForward ∧
  decode (Command.ofWords 0x35000000 0 0) = .ok .mdBackward ∧
  decode (Command.ofWords 0x36000000 0 0) = .ok .mdStop ∧
  ∀ s : State, s.halted = false →
    exec .mdForward s = .next s ∧ exec .mdBackward s = .next s ∧ exec .mdStop s = .next s

/-- R153: the range of the period, its values at the ends, and what a period of 0 does: every later MD.SETDUTY gives both
durations 0, and in every state with both durations 0 a refresh, of either command, makes a transition and leaves both 0. -/
def Obligations.PeriodRangeAndZeroPeriod : Prop :=
  (∀ f : Word, 1 ≤ f.toNat → (period f).toNat ≤ 1000 ∧ ((period f).toNat = 0 ↔ 1001 ≤ f.toNat)) ∧
  period 1 = 1000 ∧ period 1000 = 1 ∧
  (∀ (s : State) (d : Word), s.halted = false → s.mdReady = true → s.mdPeriod = 0 →
    exec (.mdSetDuty d) s = .next { s with pgOnTime := 0, pgOffTime := 0 }) ∧
  ∀ (s : State) (i : Instr), s.halted = false → s.pgReady = true → s.pgOnTime = 0 → s.pgOffTime = 0 →
    (i = .pgRefresh ∨ i = .mdRefresh ∧ s.mdReady = true) →
    ∃ t, exec i s = .next t ∧ t.pgPhase = s.pgPhase.flip ∧ t.pgOnTime = 0 ∧ t.pgOffTime = 0

/-- R162: the durations sum to the period right after MD.INIT and after every MD.SETDUTY, and after MD.SETFREQ f and
MD.SETDUTY d they sum to 1000 div f; MD.SETFREQ alone leaves both durations. -/
def Obligations.DurationsSumToPeriod : Prop :=
  (∀ (s t : State) (i : Instr), ((∃ pin f, i = .mdInit pin f) ∨ ∃ d, i = .mdSetDuty d ∧ s.mdReady = true) →
    exec i s = .next t → t.halted = false → t.pgOnTime.toNat + t.pgOffTime.toNat = t.mdPeriod.toNat) ∧
  ∀ (s : State) (f d : Word), s.halted = false → s.mdReady = true → 0 < f.toNat →
    ∃ t u : State, exec (.mdSetFreq f) s = .next t ∧ t.pgOnTime = s.pgOnTime ∧ t.pgOffTime = s.pgOffTime ∧
      exec (.mdSetDuty d) t = .next u ∧ u.pgOnTime.toNat + u.pgOffTime.toNat = 1000 / f.toNat

/-- R163: a duty operand at or below 0 acts as 0, one at or above 1.0 as 1.0. -/
def Obligations.DutyCycleIsClamped : Prop :=
  ∀ (d : Word) (s : State),
    (d.toInt ≤ 0 → exec (.mdSetDuty d) s = exec (.mdSetDuty 0) s) ∧
    (65536 ≤ d.toInt → exec (.mdSetDuty d) s = exec (.mdSetDuty 0x00010000) s)

/-- R164: the generator commands neither write nor read MD_READY and MD_PERIOD: with other values there they do the same,
and leave those values. -/
def Obligations.GeneratorCommandsIgnoreMapper : Prop :=
  ∀ (s t : State) (i : Instr) (ready : Bool) (p : Word),
    ((∃ pin on off, i = .pgInit pin on off) ∨ i = .pgRefresh ∨ (∃ d, i = .pgSetOn d) ∨ ∃ d, i = .pgSetOff d) →
    exec i s = .next t →
    exec i { s with mdReady := ready, mdPeriod := p } = .next { t with mdReady := ready, mdPeriod := p } ∧
    t.mdReady = s.mdReady ∧ t.mdPeriod = s.mdPeriod
end

