-- ==== Sys2Proof/Laws/Decode.lean ====
section
/-! SUPPORT. The small lemmas of the encoding: the fields of a packed command, masks field by field, the opcode map, and
the words and bytes of a command. -/

namespace Sys2Proof

theorem toNat_append {m n : Nat} (x : BitVec m) (y : BitVec n) : (x ++ y).toNat = x.toNat * 2 ^ n + y.toNat := by
  rw [BitVec.toNat_append, Nat.shiftLeft_eq, Nat.mul_comm, Nat.two_pow_add_eq_or_of_lt y.isLt]

theorem and_append {m n : Nat} (x x' : BitVec m) (y y' : BitVec n) :
    (x ++ y) &&& (x' ++ y') = (x &&& x') ++ (y &&& y') := by
  ext k hk
  simp only [BitVec.getElem_and, BitVec.getElem_append]
  split <;> simp

namespace Command

theorem toNat_pack (o p i x : Byte) (a b : Word) : (pack o p i x a b).toNat =
    o.toNat * 2 ^ 88 + p.toNat * 2 ^ 80 + i.toNat * 2 ^ 72 + x.toNat * 2 ^ 64 + a.toNat * 2 ^ 32 + b.toNat := by
  simp only [pack, toNat_append]
  ring

@[simp] theorem opc_pack (o p i x : Byte) (a b : Word) : (pack o p i x a b).opc = o := by
  apply BitVec.eq_of_toNat_eq
  rw [opc, BitVec.extractLsb_toNat, toNat_pack, Nat.shiftRight_eq_div_pow]
  omega

@[simp] theorem port_pack (o p i x : Byte) (a b : Word) : (pack o p i x a b).port = p := by
  apply BitVec.eq_of_toNat_eq
  rw [port, BitVec.extractLsb_toNat, toNat_pack, Nat.shiftRight_eq_div_pow]
  omega

@[simp] theorem index_pack (o p i x : Byte) (a b : Word) : (pack o p i x a b).index = i := by
  apply BitVec.eq_of_toNat_eq
  rw [index, BitVec.extractLsb_toNat, toNat_pack, Nat.shiftRight_eq_div_pow]
  omega

@[simp] theorem aux_pack (o p i x : Byte) (a b : Word) : (pack o p i x a b).aux = x := by
  apply BitVec.eq_of_toNat_eq
  rw [aux, BitVec.extractLsb_toNat, toNat_pack, Nat.shiftRight_eq_div_pow]
  omega

@[simp] theorem opA_pack (o p i x : Byte) (a b : Word) : (pack o p i x a b).opA = a := by
  apply BitVec.eq_of_toNat_eq
  rw [opA, BitVec.extractLsb_toNat, toNat_pack, Nat.shiftRight_eq_div_pow]
  omega

@[simp] theorem opB_pack (o p i x : Byte) (a b : Word) : (pack o p i x a b).opB = b := by
  apply BitVec.eq_of_toNat_eq
  rw [opB, BitVec.extractLsb_toNat, toNat_pack, Nat.shiftRight_eq_div_pow]
  omega

/-- A command is nothing but its six fields. -/
theorem pack_fields (c : Command) : pack c.opc c.port c.index c.aux c.opA c.opB = c := by
  apply BitVec.eq_of_toNat_eq
  rw [toNat_pack]
  simp only [opc, port, index, aux, opA, opB, BitVec.extractLsb_toNat, Nat.shiftRight_eq_div_pow]
  omega

theorem pack_inj (o p i x o' p' i' x' : Byte) (a b a' b' : Word) :
    pack o p i x a b = pack o' p' i' x' a' b' ↔ o = o' ∧ p = p' ∧ i = i' ∧ x = x' ∧ a = a' ∧ b = b' := by
  constructor
  · intro h
    have h := congrArg BitVec.toNat h
    rw [toNat_pack, toNat_pack] at h
    refine ⟨?_, ?_, ?_, ?_, ?_, ?_⟩ <;> apply BitVec.eq_of_toNat_eq <;> omega
  · rintro ⟨rfl, rfl, rfl, rfl, rfl, rfl⟩
    rfl

theorem pack_and (o p i x o' p' i' x' : Byte) (a b a' b' : Word) :
    pack o p i x a b &&& pack o' p' i' x' a' b' =
      pack (o &&& o') (p &&& p') (i &&& i') (x &&& x') (a &&& a') (b &&& b') := by
  unfold pack
  rw [and_append, and_append, and_append, and_append, and_append]

/-- The three words determine the command and are determined by it. -/
theorem ofWords_words (c : Command) : ofWords c.w0 c.opA c.opB = c := by
  apply BitVec.eq_of_toNat_eq
  simp only [ofWords, toNat_append, w0, opA, opB, BitVec.extractLsb_toNat, Nat.shiftRight_eq_div_pow]
  omega

theorem words_ofWords (w0 w1 w2 : Word) : (ofWords w0 w1 w2).words = [w0, w1, w2] := by
  have h : (ofWords w0 w1 w2).toNat = w0.toNat * 2 ^ 64 + w1.toNat * 2 ^ 32 + w2.toNat := by
    simp only [ofWords, toNat_append]
    ring
  simp only [words, List.cons.injEq, and_true]
  refine ⟨?_, ?_, ?_⟩ <;> apply BitVec.eq_of_toNat_eq <;>
    simp only [Command.w0, opA, opB, BitVec.extractLsb_toNat, Nat.shiftRight_eq_div_pow, h] <;> omega

/-- A command given by its words is the packed command of W0's four fields (R71). -/
theorem ofWords_append (o p i x : Byte) (a b : Word) : ofWords (o ++ p ++ i ++ x) a b = pack o p i x a b := by
  apply BitVec.eq_of_toNat_eq
  rw [toNat_pack]
  simp only [ofWords, toNat_append]
  ring

end Command

/-- The mask of a format, field by field (R73). -/
theorem Format.mask_eq_pack (f : Format) : f.mask =
    match f with
    | .n => Command.pack 0xFF 0xFF 0xFF 0xFF 0xFFFFFFFF 0xFFFFFFFF
    | .a => Command.pack 0xFF 0xFF 0xFF 0xFF 0 0xFFFFFFFF
    | .p => Command.pack 0xFF 0 0 0xFF 0xFFFFFFFF 0xFFFFFFFF
    | .pm => Command.pack 0xFF 0 0 0 0xFFFFFFFF 0xFFFFFFFF
    | .pa => Command.pack 0xFF 0 0 0xFF 0 0xFFFFFFFF
    | .pab => Command.pack 0xFF 0 0 0xFF 0 0 := by
  cases f <;> rfl

theorem opcodeOf_code (op : Opcode) : opcodeOf op.code = some op := by cases op <;> decide

theorem code_of_opcodeOf {b : Byte} {op : Opcode} (h : opcodeOf b = some op) : op.code = b := by
  simpa using List.find?_some h

/-- The rows' opcodes are pairwise different, so no word matches two rows (R75). -/
theorem opcode_codes_distinct : (Opcode.all.map Opcode.code).Nodup := by decide

theorem takeCommand_words (c : Command) (rest : List Word) : takeCommand (c.words ++ rest) = some (c, rest) := by
  simp [takeCommand, Command.words, Command.ofWords_words]

/-- A command is taken exactly when three words are there. -/
theorem takeCommand_eq_none (ws : List Word) : takeCommand ws = none ↔ ws.length < 3 := by
  match ws with
  | [] | [_] | [_, _] => simp [takeCommand]
  | _ :: _ :: _ :: _ => simp [takeCommand]

theorem takeCommand_eq_some {ws rest : List Word} {c : Command} (h : takeCommand ws = some (c, rest)) :
    ws = c.words ++ rest := by
  match ws, h with
  | w0 :: w1 :: w2 :: r, h =>
    simp only [takeCommand, Option.some.injEq, Prod.mk.injEq] at h
    obtain ⟨rfl, rfl⟩ := h
    simp [Command.words_ofWords]

theorem wordOfBytes_bytes (w : Word) :
    wordOfBytes (w.extractLsb 7 0) (w.extractLsb 15 8) (w.extractLsb 23 16) (w.extractLsb 31 24) = w := by
  apply BitVec.eq_of_toNat_eq
  simp only [wordOfBytes, toNat_append, BitVec.extractLsb_toNat, Nat.shiftRight_eq_div_pow]
  omega

theorem wordsOfBytes_wordBytes (w : Word) (rest : List Byte) :
    wordsOfBytes (wordBytes w ++ rest) = w :: wordsOfBytes rest := by
  simp [wordBytes, wordsOfBytes, wordOfBytes_bytes]

end Sys2Proof
end

