-- ==== Sys2Proof/Laws/State.lean ====
section
/-! SUPPORT. One lemma per field of State per named update: what the update leaves in the field. -/

namespace Sys2Proof.Machine

/-! ## drawClock -/

@[simp] theorem State.drawClock_pgReady (s : State) : s.drawClock.pgReady = s.pgReady := rfl
@[simp] theorem State.drawClock_pgPort (s : State) : s.drawClock.pgPort = s.pgPort := rfl
@[simp] theorem State.drawClock_pgIndex (s : State) : s.drawClock.pgIndex = s.pgIndex := rfl
@[simp] theorem State.drawClock_pgPhase (s : State) : s.drawClock.pgPhase = s.pgPhase := rfl
@[simp] theorem State.drawClock_pgOnTime (s : State) : s.drawClock.pgOnTime = s.pgOnTime := rfl
@[simp] theorem State.drawClock_pgOffTime (s : State) : s.drawClock.pgOffTime = s.pgOffTime := rfl
@[simp] theorem State.drawClock_pgLastT (s : State) : s.drawClock.pgLastT = s.pgLastT := rfl
@[simp] theorem State.drawClock_mdReady (s : State) : s.drawClock.mdReady = s.mdReady := rfl
@[simp] theorem State.drawClock_mdPeriod (s : State) : s.drawClock.mdPeriod = s.mdPeriod := rfl
@[simp] theorem State.drawClock_faultCause (s : State) : s.drawClock.faultCause = s.faultCause := rfl
@[simp] theorem State.drawClock_faultCmd (s : State) : s.drawClock.faultCmd = s.faultCmd := rfl
@[simp] theorem State.drawClock_trace (s : State) : s.drawClock.trace = s.trace := rfl
@[simp] theorem State.drawClock_responses (s : State) : s.drawClock.responses = s.responses := rfl
@[simp] theorem State.drawClock_port (s : State) : s.drawClock.port = s.port := rfl
@[simp] theorem State.drawClock_platform (s : State) : s.drawClock.platform = s.platform := rfl
@[simp] theorem State.drawClock_clockIn (s : State) : s.drawClock.clockIn = s.clockIn.tail := rfl
@[simp] theorem State.drawClock_clockDraws (s : State) : s.drawClock.clockDraws = s.clockDraws + 1 := rfl
@[simp] theorem State.drawClock_levelIn (s : State) : s.drawClock.levelIn = s.levelIn := rfl
@[simp] theorem State.drawClock_levelDraws (s : State) : s.drawClock.levelDraws = s.levelDraws := rfl

/-! ## drawLevel -/

@[simp] theorem State.drawLevel_pgReady (s : State) : s.drawLevel.pgReady = s.pgReady := rfl
@[simp] theorem State.drawLevel_pgPort (s : State) : s.drawLevel.pgPort = s.pgPort := rfl
@[simp] theorem State.drawLevel_pgIndex (s : State) : s.drawLevel.pgIndex = s.pgIndex := rfl
@[simp] theorem State.drawLevel_pgPhase (s : State) : s.drawLevel.pgPhase = s.pgPhase := rfl
@[simp] theorem State.drawLevel_pgOnTime (s : State) : s.drawLevel.pgOnTime = s.pgOnTime := rfl
@[simp] theorem State.drawLevel_pgOffTime (s : State) : s.drawLevel.pgOffTime = s.pgOffTime := rfl
@[simp] theorem State.drawLevel_pgLastT (s : State) : s.drawLevel.pgLastT = s.pgLastT := rfl
@[simp] theorem State.drawLevel_mdReady (s : State) : s.drawLevel.mdReady = s.mdReady := rfl
@[simp] theorem State.drawLevel_mdPeriod (s : State) : s.drawLevel.mdPeriod = s.mdPeriod := rfl
@[simp] theorem State.drawLevel_faultCause (s : State) : s.drawLevel.faultCause = s.faultCause := rfl
@[simp] theorem State.drawLevel_faultCmd (s : State) : s.drawLevel.faultCmd = s.faultCmd := rfl
@[simp] theorem State.drawLevel_trace (s : State) : s.drawLevel.trace = s.trace := rfl
@[simp] theorem State.drawLevel_responses (s : State) : s.drawLevel.responses = s.responses := rfl
@[simp] theorem State.drawLevel_port (s : State) : s.drawLevel.port = s.port := rfl
@[simp] theorem State.drawLevel_platform (s : State) : s.drawLevel.platform = s.platform := rfl
@[simp] theorem State.drawLevel_clockIn (s : State) : s.drawLevel.clockIn = s.clockIn := rfl
@[simp] theorem State.drawLevel_clockDraws (s : State) : s.drawLevel.clockDraws = s.clockDraws := rfl
@[simp] theorem State.drawLevel_levelIn (s : State) : s.drawLevel.levelIn = s.levelIn.tail := rfl
@[simp] theorem State.drawLevel_levelDraws (s : State) : s.drawLevel.levelDraws = s.levelDraws + 1 := rfl

/-! ## emit -/

@[simp] theorem State.emit_pgReady (s : State) (e : Event) : (s.emit e).pgReady = s.pgReady := rfl
@[simp] theorem State.emit_pgPort (s : State) (e : Event) : (s.emit e).pgPort = s.pgPort := rfl
@[simp] theorem State.emit_pgIndex (s : State) (e : Event) : (s.emit e).pgIndex = s.pgIndex := rfl
@[simp] theorem State.emit_pgPhase (s : State) (e : Event) : (s.emit e).pgPhase = s.pgPhase := rfl
@[simp] theorem State.emit_pgOnTime (s : State) (e : Event) : (s.emit e).pgOnTime = s.pgOnTime := rfl
@[simp] theorem State.emit_pgOffTime (s : State) (e : Event) : (s.emit e).pgOffTime = s.pgOffTime := rfl
@[simp] theorem State.emit_pgLastT (s : State) (e : Event) : (s.emit e).pgLastT = s.pgLastT := rfl
@[simp] theorem State.emit_mdReady (s : State) (e : Event) : (s.emit e).mdReady = s.mdReady := rfl
@[simp] theorem State.emit_mdPeriod (s : State) (e : Event) : (s.emit e).mdPeriod = s.mdPeriod := rfl
@[simp] theorem State.emit_faultCause (s : State) (e : Event) : (s.emit e).faultCause = s.faultCause := rfl
@[simp] theorem State.emit_faultCmd (s : State) (e : Event) : (s.emit e).faultCmd = s.faultCmd := rfl
@[simp] theorem State.emit_trace (s : State) (e : Event) : (s.emit e).trace = s.trace ++ [e] := rfl
@[simp] theorem State.emit_responses (s : State) (e : Event) : (s.emit e).responses = s.responses := rfl
@[simp] theorem State.emit_port (s : State) (e : Event) : (s.emit e).port = s.port := rfl
@[simp] theorem State.emit_platform (s : State) (e : Event) : (s.emit e).platform = s.platform := rfl
@[simp] theorem State.emit_clockIn (s : State) (e : Event) : (s.emit e).clockIn = s.clockIn := rfl
@[simp] theorem State.emit_clockDraws (s : State) (e : Event) : (s.emit e).clockDraws = s.clockDraws := rfl
@[simp] theorem State.emit_levelIn (s : State) (e : Event) : (s.emit e).levelIn = s.levelIn := rfl
@[simp] theorem State.emit_levelDraws (s : State) (e : Event) : (s.emit e).levelDraws = s.levelDraws := rfl

/-! ## respond -/

@[simp] theorem State.respond_pgReady (s : State) (l : Level) : (s.respond l).pgReady = s.pgReady := rfl
@[simp] theorem State.respond_pgPort (s : State) (l : Level) : (s.respond l).pgPort = s.pgPort := rfl
@[simp] theorem State.respond_pgIndex (s : State) (l : Level) : (s.respond l).pgIndex = s.pgIndex := rfl
@[simp] theorem State.respond_pgPhase (s : State) (l : Level) : (s.respond l).pgPhase = s.pgPhase := rfl
@[simp] theorem State.respond_pgOnTime (s : State) (l : Level) : (s.respond l).pgOnTime = s.pgOnTime := rfl
@[simp] theorem State.respond_pgOffTime (s : State) (l : Level) : (s.respond l).pgOffTime = s.pgOffTime := rfl
@[simp] theorem State.respond_pgLastT (s : State) (l : Level) : (s.respond l).pgLastT = s.pgLastT := rfl
@[simp] theorem State.respond_mdReady (s : State) (l : Level) : (s.respond l).mdReady = s.mdReady := rfl
@[simp] theorem State.respond_mdPeriod (s : State) (l : Level) : (s.respond l).mdPeriod = s.mdPeriod := rfl
@[simp] theorem State.respond_faultCause (s : State) (l : Level) : (s.respond l).faultCause = s.faultCause := rfl
@[simp] theorem State.respond_faultCmd (s : State) (l : Level) : (s.respond l).faultCmd = s.faultCmd := rfl
@[simp] theorem State.respond_trace (s : State) (l : Level) : (s.respond l).trace = s.trace := rfl
@[simp] theorem State.respond_responses (s : State) (l : Level) : (s.respond l).responses = s.responses ++ [l] := rfl
@[simp] theorem State.respond_port (s : State) (l : Level) : (s.respond l).port = s.port := rfl
@[simp] theorem State.respond_platform (s : State) (l : Level) : (s.respond l).platform = s.platform := rfl
@[simp] theorem State.respond_clockIn (s : State) (l : Level) : (s.respond l).clockIn = s.clockIn := rfl
@[simp] theorem State.respond_clockDraws (s : State) (l : Level) : (s.respond l).clockDraws = s.clockDraws := rfl
@[simp] theorem State.respond_levelIn (s : State) (l : Level) : (s.respond l).levelIn = s.levelIn := rfl
@[simp] theorem State.respond_levelDraws (s : State) (l : Level) : (s.respond l).levelDraws = s.levelDraws := rfl

/-! ## takeFault -/

@[simp] theorem State.takeFault_pgReady (s : State) (k : FaultCause) (c : Command) : (s.takeFault k c).pgReady = s.pgReady := rfl
@[simp] theorem State.takeFault_pgPort (s : State) (k : FaultCause) (c : Command) : (s.takeFault k c).pgPort = s.pgPort := rfl
@[simp] theorem State.takeFault_pgIndex (s : State) (k : FaultCause) (c : Command) : (s.takeFault k c).pgIndex = s.pgIndex := rfl
@[simp] theorem State.takeFault_pgPhase (s : State) (k : FaultCause) (c : Command) : (s.takeFault k c).pgPhase = s.pgPhase := rfl
@[simp] theorem State.takeFault_pgOnTime (s : State) (k : FaultCause) (c : Command) : (s.takeFault k c).pgOnTime = s.pgOnTime := rfl
@[simp] theorem State.takeFault_pgOffTime (s : State) (k : FaultCause) (c : Command) : (s.takeFault k c).pgOffTime = s.pgOffTime := rfl
@[simp] theorem State.takeFault_pgLastT (s : State) (k : FaultCause) (c : Command) : (s.takeFault k c).pgLastT = s.pgLastT := rfl
@[simp] theorem State.takeFault_mdReady (s : State) (k : FaultCause) (c : Command) : (s.takeFault k c).mdReady = s.mdReady := rfl
@[simp] theorem State.takeFault_mdPeriod (s : State) (k : FaultCause) (c : Command) : (s.takeFault k c).mdPeriod = s.mdPeriod := rfl
@[simp] theorem State.takeFault_faultCause (s : State) (k : FaultCause) (c : Command) : (s.takeFault k c).faultCause = k.code := rfl
@[simp] theorem State.takeFault_faultCmd (s : State) (k : FaultCause) (c : Command) : (s.takeFault k c).faultCmd = c := rfl
@[simp] theorem State.takeFault_trace (s : State) (k : FaultCause) (c : Command) : (s.takeFault k c).trace = s.trace := rfl
@[simp] theorem State.takeFault_responses (s : State) (k : FaultCause) (c : Command) : (s.takeFault k c).responses = s.responses := rfl
@[simp] theorem State.takeFault_port (s : State) (k : FaultCause) (c : Command) : (s.takeFault k c).port = s.port := rfl
@[simp] theorem State.takeFault_platform (s : State) (k : FaultCause) (c : Command) : (s.takeFault k c).platform = s.platform := rfl
@[simp] theorem State.takeFault_clockIn (s : State) (k : FaultCause) (c : Command) : (s.takeFault k c).clockIn = s.clockIn := rfl
@[simp] theorem State.takeFault_clockDraws (s : State) (k : FaultCause) (c : Command) : (s.takeFault k c).clockDraws = s.clockDraws := rfl
@[simp] theorem State.takeFault_levelIn (s : State) (k : FaultCause) (c : Command) : (s.takeFault k c).levelIn = s.levelIn := rfl
@[simp] theorem State.takeFault_levelDraws (s : State) (k : FaultCause) (c : Command) : (s.takeFault k c).levelDraws = s.levelDraws := rfl

/-! ## receive -/

@[simp] theorem State.receive_pgReady (s : State) (ws : List Word) : (s.receive ws).pgReady = s.pgReady := rfl
@[simp] theorem State.receive_pgPort (s : State) (ws : List Word) : (s.receive ws).pgPort = s.pgPort := rfl
@[simp] theorem State.receive_pgIndex (s : State) (ws : List Word) : (s.receive ws).pgIndex = s.pgIndex := rfl
@[simp] theorem State.receive_pgPhase (s : State) (ws : List Word) : (s.receive ws).pgPhase = s.pgPhase := rfl
@[simp] theorem State.receive_pgOnTime (s : State) (ws : List Word) : (s.receive ws).pgOnTime = s.pgOnTime := rfl
@[simp] theorem State.receive_pgOffTime (s : State) (ws : List Word) : (s.receive ws).pgOffTime = s.pgOffTime := rfl
@[simp] theorem State.receive_pgLastT (s : State) (ws : List Word) : (s.receive ws).pgLastT = s.pgLastT := rfl
@[simp] theorem State.receive_mdReady (s : State) (ws : List Word) : (s.receive ws).mdReady = s.mdReady := rfl
@[simp] theorem State.receive_mdPeriod (s : State) (ws : List Word) : (s.receive ws).mdPeriod = s.mdPeriod := rfl
@[simp] theorem State.receive_faultCause (s : State) (ws : List Word) : (s.receive ws).faultCause = s.faultCause := rfl
@[simp] theorem State.receive_faultCmd (s : State) (ws : List Word) : (s.receive ws).faultCmd = s.faultCmd := rfl
@[simp] theorem State.receive_trace (s : State) (ws : List Word) : (s.receive ws).trace = s.trace := rfl
@[simp] theorem State.receive_responses (s : State) (ws : List Word) : (s.receive ws).responses = s.responses := rfl
@[simp] theorem State.receive_port (s : State) (ws : List Word) : (s.receive ws).port = s.port ++ ws := rfl
@[simp] theorem State.receive_platform (s : State) (ws : List Word) : (s.receive ws).platform = s.platform := rfl
@[simp] theorem State.receive_clockIn (s : State) (ws : List Word) : (s.receive ws).clockIn = s.clockIn := rfl
@[simp] theorem State.receive_clockDraws (s : State) (ws : List Word) : (s.receive ws).clockDraws = s.clockDraws := rfl
@[simp] theorem State.receive_levelIn (s : State) (ws : List Word) : (s.receive ws).levelIn = s.levelIn := rfl
@[simp] theorem State.receive_levelDraws (s : State) (ws : List Word) : (s.receive ws).levelDraws = s.levelDraws := rfl

/-! ## withPort -/

@[simp] theorem State.withPort_pgReady (s : State) (ws : List Word) : (s.withPort ws).pgReady = s.pgReady := rfl
@[simp] theorem State.withPort_pgPort (s : State) (ws : List Word) : (s.withPort ws).pgPort = s.pgPort := rfl
@[simp] theorem State.withPort_pgIndex (s : State) (ws : List Word) : (s.withPort ws).pgIndex = s.pgIndex := rfl
@[simp] theorem State.withPort_pgPhase (s : State) (ws : List Word) : (s.withPort ws).pgPhase = s.pgPhase := rfl
@[simp] theorem State.withPort_pgOnTime (s : State) (ws : List Word) : (s.withPort ws).pgOnTime = s.pgOnTime := rfl
@[simp] theorem State.withPort_pgOffTime (s : State) (ws : List Word) : (s.withPort ws).pgOffTime = s.pgOffTime := rfl
@[simp] theorem State.withPort_pgLastT (s : State) (ws : List Word) : (s.withPort ws).pgLastT = s.pgLastT := rfl
@[simp] theorem State.withPort_mdReady (s : State) (ws : List Word) : (s.withPort ws).mdReady = s.mdReady := rfl
@[simp] theorem State.withPort_mdPeriod (s : State) (ws : List Word) : (s.withPort ws).mdPeriod = s.mdPeriod := rfl
@[simp] theorem State.withPort_faultCause (s : State) (ws : List Word) : (s.withPort ws).faultCause = s.faultCause := rfl
@[simp] theorem State.withPort_faultCmd (s : State) (ws : List Word) : (s.withPort ws).faultCmd = s.faultCmd := rfl
@[simp] theorem State.withPort_trace (s : State) (ws : List Word) : (s.withPort ws).trace = s.trace := rfl
@[simp] theorem State.withPort_responses (s : State) (ws : List Word) : (s.withPort ws).responses = s.responses := rfl
@[simp] theorem State.withPort_port (s : State) (ws : List Word) : (s.withPort ws).port = ws := rfl
@[simp] theorem State.withPort_platform (s : State) (ws : List Word) : (s.withPort ws).platform = s.platform := rfl
@[simp] theorem State.withPort_clockIn (s : State) (ws : List Word) : (s.withPort ws).clockIn = s.clockIn := rfl
@[simp] theorem State.withPort_clockDraws (s : State) (ws : List Word) : (s.withPort ws).clockDraws = s.clockDraws := rfl
@[simp] theorem State.withPort_levelIn (s : State) (ws : List Word) : (s.withPort ws).levelIn = s.levelIn := rfl
@[simp] theorem State.withPort_levelDraws (s : State) (ws : List Word) : (s.withPort ws).levelDraws = s.levelDraws := rfl

/-! ## setDurations -/

@[simp] theorem State.setDurations_pgReady (s : State) (on off : Word) : (s.setDurations on off).pgReady = s.pgReady := rfl
@[simp] theorem State.setDurations_pgPort (s : State) (on off : Word) : (s.setDurations on off).pgPort = s.pgPort := rfl
@[simp] theorem State.setDurations_pgIndex (s : State) (on off : Word) : (s.setDurations on off).pgIndex = s.pgIndex := rfl
@[simp] theorem State.setDurations_pgPhase (s : State) (on off : Word) : (s.setDurations on off).pgPhase = s.pgPhase := rfl
@[simp] theorem State.setDurations_pgOnTime (s : State) (on off : Word) : (s.setDurations on off).pgOnTime = on := rfl
@[simp] theorem State.setDurations_pgOffTime (s : State) (on off : Word) : (s.setDurations on off).pgOffTime = off := rfl
@[simp] theorem State.setDurations_pgLastT (s : State) (on off : Word) : (s.setDurations on off).pgLastT = s.pgLastT := rfl
@[simp] theorem State.setDurations_mdReady (s : State) (on off : Word) : (s.setDurations on off).mdReady = s.mdReady := rfl
@[simp] theorem State.setDurations_mdPeriod (s : State) (on off : Word) : (s.setDurations on off).mdPeriod = s.mdPeriod := rfl
@[simp] theorem State.setDurations_faultCause (s : State) (on off : Word) : (s.setDurations on off).faultCause = s.faultCause := rfl
@[simp] theorem State.setDurations_faultCmd (s : State) (on off : Word) : (s.setDurations on off).faultCmd = s.faultCmd := rfl
@[simp] theorem State.setDurations_trace (s : State) (on off : Word) : (s.setDurations on off).trace = s.trace := rfl
@[simp] theorem State.setDurations_responses (s : State) (on off : Word) : (s.setDurations on off).responses = s.responses := rfl
@[simp] theorem State.setDurations_port (s : State) (on off : Word) : (s.setDurations on off).port = s.port := rfl
@[simp] theorem State.setDurations_platform (s : State) (on off : Word) : (s.setDurations on off).platform = s.platform := rfl
@[simp] theorem State.setDurations_clockIn (s : State) (on off : Word) : (s.setDurations on off).clockIn = s.clockIn := rfl
@[simp] theorem State.setDurations_clockDraws (s : State) (on off : Word) : (s.setDurations on off).clockDraws = s.clockDraws := rfl
@[simp] theorem State.setDurations_levelIn (s : State) (on off : Word) : (s.setDurations on off).levelIn = s.levelIn := rfl
@[simp] theorem State.setDurations_levelDraws (s : State) (on off : Word) : (s.setDurations on off).levelDraws = s.levelDraws := rfl

/-! ## setPeriod -/

@[simp] theorem State.setPeriod_pgReady (s : State) (p : Word) : (s.setPeriod p).pgReady = s.pgReady := rfl
@[simp] theorem State.setPeriod_pgPort (s : State) (p : Word) : (s.setPeriod p).pgPort = s.pgPort := rfl
@[simp] theorem State.setPeriod_pgIndex (s : State) (p : Word) : (s.setPeriod p).pgIndex = s.pgIndex := rfl
@[simp] theorem State.setPeriod_pgPhase (s : State) (p : Word) : (s.setPeriod p).pgPhase = s.pgPhase := rfl
@[simp] theorem State.setPeriod_pgOnTime (s : State) (p : Word) : (s.setPeriod p).pgOnTime = s.pgOnTime := rfl
@[simp] theorem State.setPeriod_pgOffTime (s : State) (p : Word) : (s.setPeriod p).pgOffTime = s.pgOffTime := rfl
@[simp] theorem State.setPeriod_pgLastT (s : State) (p : Word) : (s.setPeriod p).pgLastT = s.pgLastT := rfl
@[simp] theorem State.setPeriod_mdReady (s : State) (p : Word) : (s.setPeriod p).mdReady = s.mdReady := rfl
@[simp] theorem State.setPeriod_mdPeriod (s : State) (p : Word) : (s.setPeriod p).mdPeriod = p := rfl
@[simp] theorem State.setPeriod_faultCause (s : State) (p : Word) : (s.setPeriod p).faultCause = s.faultCause := rfl
@[simp] theorem State.setPeriod_faultCmd (s : State) (p : Word) : (s.setPeriod p).faultCmd = s.faultCmd := rfl
@[simp] theorem State.setPeriod_trace (s : State) (p : Word) : (s.setPeriod p).trace = s.trace := rfl
@[simp] theorem State.setPeriod_responses (s : State) (p : Word) : (s.setPeriod p).responses = s.responses := rfl
@[simp] theorem State.setPeriod_port (s : State) (p : Word) : (s.setPeriod p).port = s.port := rfl
@[simp] theorem State.setPeriod_platform (s : State) (p : Word) : (s.setPeriod p).platform = s.platform := rfl
@[simp] theorem State.setPeriod_clockIn (s : State) (p : Word) : (s.setPeriod p).clockIn = s.clockIn := rfl
@[simp] theorem State.setPeriod_clockDraws (s : State) (p : Word) : (s.setPeriod p).clockDraws = s.clockDraws := rfl
@[simp] theorem State.setPeriod_levelIn (s : State) (p : Word) : (s.setPeriod p).levelIn = s.levelIn := rfl
@[simp] theorem State.setPeriod_levelDraws (s : State) (p : Word) : (s.setPeriod p).levelDraws = s.levelDraws := rfl

/-! ## markPgReady -/

@[simp] theorem State.markPgReady_pgReady (s : State) : s.markPgReady.pgReady = true := rfl
@[simp] theorem State.markPgReady_pgPort (s : State) : s.markPgReady.pgPort = s.pgPort := rfl
@[simp] theorem State.markPgReady_pgIndex (s : State) : s.markPgReady.pgIndex = s.pgIndex := rfl
@[simp] theorem State.markPgReady_pgPhase (s : State) : s.markPgReady.pgPhase = s.pgPhase := rfl
@[simp] theorem State.markPgReady_pgOnTime (s : State) : s.markPgReady.pgOnTime = s.pgOnTime := rfl
@[simp] theorem State.markPgReady_pgOffTime (s : State) : s.markPgReady.pgOffTime = s.pgOffTime := rfl
@[simp] theorem State.markPgReady_pgLastT (s : State) : s.markPgReady.pgLastT = s.pgLastT := rfl
@[simp] theorem State.markPgReady_mdReady (s : State) : s.markPgReady.mdReady = s.mdReady := rfl
@[simp] theorem State.markPgReady_mdPeriod (s : State) : s.markPgReady.mdPeriod = s.mdPeriod := rfl
@[simp] theorem State.markPgReady_faultCause (s : State) : s.markPgReady.faultCause = s.faultCause := rfl
@[simp] theorem State.markPgReady_faultCmd (s : State) : s.markPgReady.faultCmd = s.faultCmd := rfl
@[simp] theorem State.markPgReady_trace (s : State) : s.markPgReady.trace = s.trace := rfl
@[simp] theorem State.markPgReady_responses (s : State) : s.markPgReady.responses = s.responses := rfl
@[simp] theorem State.markPgReady_port (s : State) : s.markPgReady.port = s.port := rfl
@[simp] theorem State.markPgReady_platform (s : State) : s.markPgReady.platform = s.platform := rfl
@[simp] theorem State.markPgReady_clockIn (s : State) : s.markPgReady.clockIn = s.clockIn := rfl
@[simp] theorem State.markPgReady_clockDraws (s : State) : s.markPgReady.clockDraws = s.clockDraws := rfl
@[simp] theorem State.markPgReady_levelIn (s : State) : s.markPgReady.levelIn = s.levelIn := rfl
@[simp] theorem State.markPgReady_levelDraws (s : State) : s.markPgReady.levelDraws = s.levelDraws := rfl

/-! ## markMdReady -/

@[simp] theorem State.markMdReady_pgReady (s : State) : s.markMdReady.pgReady = s.pgReady := rfl
@[simp] theorem State.markMdReady_pgPort (s : State) : s.markMdReady.pgPort = s.pgPort := rfl
@[simp] theorem State.markMdReady_pgIndex (s : State) : s.markMdReady.pgIndex = s.pgIndex := rfl
@[simp] theorem State.markMdReady_pgPhase (s : State) : s.markMdReady.pgPhase = s.pgPhase := rfl
@[simp] theorem State.markMdReady_pgOnTime (s : State) : s.markMdReady.pgOnTime = s.pgOnTime := rfl
@[simp] theorem State.markMdReady_pgOffTime (s : State) : s.markMdReady.pgOffTime = s.pgOffTime := rfl
@[simp] theorem State.markMdReady_pgLastT (s : State) : s.markMdReady.pgLastT = s.pgLastT := rfl
@[simp] theorem State.markMdReady_mdReady (s : State) : s.markMdReady.mdReady = true := rfl
@[simp] theorem State.markMdReady_mdPeriod (s : State) : s.markMdReady.mdPeriod = s.mdPeriod := rfl
@[simp] theorem State.markMdReady_faultCause (s : State) : s.markMdReady.faultCause = s.faultCause := rfl
@[simp] theorem State.markMdReady_faultCmd (s : State) : s.markMdReady.faultCmd = s.faultCmd := rfl
@[simp] theorem State.markMdReady_trace (s : State) : s.markMdReady.trace = s.trace := rfl
@[simp] theorem State.markMdReady_responses (s : State) : s.markMdReady.responses = s.responses := rfl
@[simp] theorem State.markMdReady_port (s : State) : s.markMdReady.port = s.port := rfl
@[simp] theorem State.markMdReady_platform (s : State) : s.markMdReady.platform = s.platform := rfl
@[simp] theorem State.markMdReady_clockIn (s : State) : s.markMdReady.clockIn = s.clockIn := rfl
@[simp] theorem State.markMdReady_clockDraws (s : State) : s.markMdReady.clockDraws = s.clockDraws := rfl
@[simp] theorem State.markMdReady_levelIn (s : State) : s.markMdReady.levelIn = s.levelIn := rfl
@[simp] theorem State.markMdReady_levelDraws (s : State) : s.markMdReady.levelDraws = s.levelDraws := rfl

/-! ## bind -/

@[simp] theorem State.bind_pgReady (s : State) (pin : Pin) (now : Word) : (s.bind pin now).pgReady = s.pgReady := rfl
@[simp] theorem State.bind_pgPort (s : State) (pin : Pin) (now : Word) : (s.bind pin now).pgPort = pin.port := rfl
@[simp] theorem State.bind_pgIndex (s : State) (pin : Pin) (now : Word) : (s.bind pin now).pgIndex = pin.index := rfl
@[simp] theorem State.bind_pgPhase (s : State) (pin : Pin) (now : Word) : (s.bind pin now).pgPhase = .off := rfl
@[simp] theorem State.bind_pgOnTime (s : State) (pin : Pin) (now : Word) : (s.bind pin now).pgOnTime = s.pgOnTime := rfl
@[simp] theorem State.bind_pgOffTime (s : State) (pin : Pin) (now : Word) : (s.bind pin now).pgOffTime = s.pgOffTime := rfl
@[simp] theorem State.bind_pgLastT (s : State) (pin : Pin) (now : Word) : (s.bind pin now).pgLastT = now := rfl
@[simp] theorem State.bind_mdReady (s : State) (pin : Pin) (now : Word) : (s.bind pin now).mdReady = s.mdReady := rfl
@[simp] theorem State.bind_mdPeriod (s : State) (pin : Pin) (now : Word) : (s.bind pin now).mdPeriod = s.mdPeriod := rfl
@[simp] theorem State.bind_faultCause (s : State) (pin : Pin) (now : Word) : (s.bind pin now).faultCause = s.faultCause := rfl
@[simp] theorem State.bind_faultCmd (s : State) (pin : Pin) (now : Word) : (s.bind pin now).faultCmd = s.faultCmd := rfl
@[simp] theorem State.bind_trace (s : State) (pin : Pin) (now : Word) : (s.bind pin now).trace = s.trace := rfl
@[simp] theorem State.bind_responses (s : State) (pin : Pin) (now : Word) : (s.bind pin now).responses = s.responses := rfl
@[simp] theorem State.bind_port (s : State) (pin : Pin) (now : Word) : (s.bind pin now).port = s.port := rfl
@[simp] theorem State.bind_platform (s : State) (pin : Pin) (now : Word) : (s.bind pin now).platform = s.platform := rfl
@[simp] theorem State.bind_clockIn (s : State) (pin : Pin) (now : Word) : (s.bind pin now).clockIn = s.clockIn := rfl
@[simp] theorem State.bind_clockDraws (s : State) (pin : Pin) (now : Word) : (s.bind pin now).clockDraws = s.clockDraws := rfl
@[simp] theorem State.bind_levelIn (s : State) (pin : Pin) (now : Word) : (s.bind pin now).levelIn = s.levelIn := rfl
@[simp] theorem State.bind_levelDraws (s : State) (pin : Pin) (now : Word) : (s.bind pin now).levelDraws = s.levelDraws := rfl

/-! ## flipPhase -/

@[simp] theorem State.flipPhase_pgReady (s : State) (now : Word) : (s.flipPhase now).pgReady = s.pgReady := rfl
@[simp] theorem State.flipPhase_pgPort (s : State) (now : Word) : (s.flipPhase now).pgPort = s.pgPort := rfl
@[simp] theorem State.flipPhase_pgIndex (s : State) (now : Word) : (s.flipPhase now).pgIndex = s.pgIndex := rfl
@[simp] theorem State.flipPhase_pgPhase (s : State) (now : Word) : (s.flipPhase now).pgPhase = s.pgPhase.flip := rfl
@[simp] theorem State.flipPhase_pgOnTime (s : State) (now : Word) : (s.flipPhase now).pgOnTime = s.pgOnTime := rfl
@[simp] theorem State.flipPhase_pgOffTime (s : State) (now : Word) : (s.flipPhase now).pgOffTime = s.pgOffTime := rfl
@[simp] theorem State.flipPhase_pgLastT (s : State) (now : Word) : (s.flipPhase now).pgLastT = now := rfl
@[simp] theorem State.flipPhase_mdReady (s : State) (now : Word) : (s.flipPhase now).mdReady = s.mdReady := rfl
@[simp] theorem State.flipPhase_mdPeriod (s : State) (now : Word) : (s.flipPhase now).mdPeriod = s.mdPeriod := rfl
@[simp] theorem State.flipPhase_faultCause (s : State) (now : Word) : (s.flipPhase now).faultCause = s.faultCause := rfl
@[simp] theorem State.flipPhase_faultCmd (s : State) (now : Word) : (s.flipPhase now).faultCmd = s.faultCmd := rfl
@[simp] theorem State.flipPhase_trace (s : State) (now : Word) : (s.flipPhase now).trace = s.trace := rfl
@[simp] theorem State.flipPhase_responses (s : State) (now : Word) : (s.flipPhase now).responses = s.responses := rfl
@[simp] theorem State.flipPhase_port (s : State) (now : Word) : (s.flipPhase now).port = s.port := rfl
@[simp] theorem State.flipPhase_platform (s : State) (now : Word) : (s.flipPhase now).platform = s.platform := rfl
@[simp] theorem State.flipPhase_clockIn (s : State) (now : Word) : (s.flipPhase now).clockIn = s.clockIn := rfl
@[simp] theorem State.flipPhase_clockDraws (s : State) (now : Word) : (s.flipPhase now).clockDraws = s.clockDraws := rfl
@[simp] theorem State.flipPhase_levelIn (s : State) (now : Word) : (s.flipPhase now).levelIn = s.levelIn := rfl
@[simp] theorem State.flipPhase_levelDraws (s : State) (now : Word) : (s.flipPhase now).levelDraws = s.levelDraws := rfl

end Sys2Proof.Machine
end

