-- ==== Sys2Proof/Laws/Ops.lean ====
section
/-! SUPPORT. One lemma per shared operation that says everything it can do, and what each command does in a running block,
so that a proof cites these and unfolds no operation. -/

namespace Sys2Proof.Machine

/-! ## Status -/

theorem State.halted_eq_false {s : State} : s.halted = false ↔ s.faultCause = 0 := by simp [State.halted]

theorem State.halted_eq_true {s : State} : s.halted = true ↔ s.faultCause ≠ 0 := by simp [State.halted]

/-- No cause has code 0, so taking a fault halts (R31, R181). -/
theorem FaultCause.code_ne_zero (k : FaultCause) : k.code ≠ 0 := by cases k <;> decide

theorem FaultCause.code_bounds (k : FaultCause) : 1 ≤ k.code.toNat ∧ k.code.toNat ≤ 6 := by cases k <;> decide

theorem FaultCause.code_inj {k l : FaultCause} (h : k.code = l.code) : k = l := by
  cases k <;> cases l <;> first | rfl | exact absurd h (by decide)

@[simp] theorem State.takeFault_halted (s : State) (k : FaultCause) (c : Command) : (s.takeFault k c).halted = true :=
  State.halted_eq_true.mpr k.code_ne_zero

@[simp] theorem Phase.flip_flip (p : Phase) : p.flip.flip = p := by cases p <;> rfl

theorem Phase.flip_ne (p : Phase) : p.flip ≠ p := by cases p <;> decide

@[simp] theorem Phase.level_off : Phase.off.level = 0 := rfl

@[simp] theorem Phase.level_on : Phase.on.level = 1 := rfl

/-! ## Checks -/

theorem whenRunning_of_running {s : State} (h : s.halted = false) (k : Result) : whenRunning s k = k := by
  simp [whenRunning, h]

theorem whenRunning_of_halted {s : State} (h : s.halted = true) (k : Result) : whenRunning s k = .fault .halted := by
  simp [whenRunning, h]

theorem whenPinValid_of_valid {pin : Pin} {s : State} (h : pinValid s.platform pin = true) (i : Instr) (k : Result) :
    whenPinValid pin i s k = k := by
  simp [whenPinValid, h]

theorem whenPinValid_of_invalid {pin : Pin} {s : State} (h : pinValid s.platform pin = false) (i : Instr) (k : Result) :
    whenPinValid pin i s k = raise .invalidPin i s := by
  simp [whenPinValid, h]

/-! ## The generator -/

/-- Everything `startGenerator` does, as one update (R128). -/
theorem State.startGenerator_eq (s : State) (pin : Pin) (on off : Word) : s.startGenerator pin on off =
    { s with
      pgReady := true, pgPort := pin.port, pgIndex := pin.index, pgPhase := .off, pgOnTime := on, pgOffTime := off,
      pgLastT := s.clockSample, trace := s.trace ++ [.pinWrite pin 0],
      clockIn := s.clockIn.tail, clockDraws := s.clockDraws + 1 } := rfl

/-- Everything a transition does, as one update (R125). -/
theorem State.transition_eq (s : State) (now : Word) : s.transition now =
    { s with
      pgPhase := s.pgPhase.flip, pgLastT := now,
      trace := s.trace ++ [.pinWrite s.boundPin s.pgPhase.flip.level] } := rfl

theorem State.refreshGenerator_of_not_ready {s : State} (h : s.pgReady = false) : s.refreshGenerator = s := by
  simp [State.refreshGenerator, h]

theorem State.refreshGenerator_of_due {s : State} (h : s.pgReady = true) (hd : s.due s.clockSample = true) :
    s.refreshGenerator = s.drawClock.transition s.clockSample := by
  simp [State.refreshGenerator, h, hd]

theorem State.refreshGenerator_of_not_due {s : State} (h : s.pgReady = true) (hd : s.due s.clockSample = false) :
    s.refreshGenerator = s.drawClock := by
  simp [State.refreshGenerator, h, hd]

/-- A refresh does one of three things (R121, R123, R126). -/
theorem State.refreshGenerator_cases (s : State) :
    (s.pgReady = false ∧ s.refreshGenerator = s) ∨
    (s.pgReady = true ∧ s.due s.clockSample = true ∧ s.refreshGenerator = s.drawClock.transition s.clockSample) ∨
    (s.pgReady = true ∧ s.due s.clockSample = false ∧ s.refreshGenerator = s.drawClock) := by
  cases hr : s.pgReady with
  | false => exact .inl ⟨rfl, State.refreshGenerator_of_not_ready hr⟩
  | true =>
    cases hd : s.due s.clockSample with
    | false => exact .inr (.inr ⟨rfl, rfl, State.refreshGenerator_of_not_due hr hd⟩)
    | true => exact .inr (.inl ⟨rfl, rfl, State.refreshGenerator_of_due hr hd⟩)

theorem State.due_iff (s : State) (now : Word) :
    s.due now = true ↔ s.activeDuration.toNat ≤ (now - s.pgLastT).toNat := by
  unfold State.due State.elapsed
  exact decide_eq_true_iff

/-! ## The mapper's functions -/

/-- The clamped duty cycle lies in [0, 65536] (R154). -/
theorem dutyFixed_le (d : Word) : dutyFixed d ≤ 65536 := by
  unfold dutyFixed
  split
  · omega
  · split <;> omega

/-- The on-time is at most the period (R154). -/
theorem dutyOn_le (p d : Word) : dutyOn p d ≤ p.toNat := by
  unfold dutyOn
  calc p.toNat * dutyFixed d / 65536 ≤ p.toNat * 65536 / 65536 :=
        Nat.div_le_div_right (Nat.mul_le_mul_left _ (dutyFixed_le d))
    _ = p.toNat := Nat.mul_div_cancel _ (by decide)

theorem dutyOn_lt (p d : Word) : dutyOn p d < 2 ^ 32 := lt_of_le_of_lt (dutyOn_le p d) p.isLt

theorem dutyOff_lt (p d : Word) : dutyOff p d < 2 ^ 32 := lt_of_le_of_lt (Nat.sub_le _ _) p.isLt

theorem period_toNat (f : Word) : (period f).toNat = 1000 / f.toNat := by
  have h : 1000 / f.toNat ≤ 1000 := Nat.div_le_self _ _
  rw [period, BitVec.toNat_ofNat]
  exact Nat.mod_eq_of_lt (lt_of_le_of_lt h (by decide))

/-! ## Execution -/

/-- Every command reads FAULT_CAUSE first (R33, R35). -/
theorem exec_of_halted {s : State} (h : s.halted = true) (i : Instr) : exec i s = .fault .halted := by
  cases i <;> exact whenRunning_of_halted h _

/-- What each command does in a running block: the pin test first where it has a pin, then its own body. -/
theorem exec_of_running {s : State} (h : s.halted = false) (i : Instr) : exec i s =
    match i with
    | .gpioSetup pin mode => whenPinValid pin i s (if modeValid s.platform mode then .next (s.emit (.pinSetup pin mode))
        else raise .invalidMode i s)
    | .gpioRead pin => whenPinValid pin i s (.next (((s.emit (.pinRead pin)).drawLevel).respond (s.pinLevel pin)))
    | .gpioWrite pin value => whenPinValid pin i s (if writeValueValid s.platform pin value
        then .next (s.emit (.pinWrite pin value)) else raise .invalidValue i s)
    | .gpioHigh pin => whenPinValid pin i s (.next (s.emit (.pinWrite pin 1)))
    | .gpioLow pin => whenPinValid pin i s (.next (s.emit (.pinWrite pin 0)))
    | .pgInit pin on off => whenPinValid pin i s (.next (s.startGenerator pin on off))
    | .pgRefresh => .next s.refreshGenerator
    | .pgSetOn d => .next (if s.pgReady then s.setDurations d s.pgOffTime else s)
    | .pgSetOff d => .next (if s.pgReady then s.setDurations s.pgOnTime d else s)
    | .mdInit pin f => whenPinValid pin i s (if f = 0 then raise .zeroFrequency i s
        else .next (((s.setPeriod (period f)).startGenerator pin 0 (period f)).markMdReady))
    | .mdRefresh => .next (if s.mdReady then s.refreshGenerator else s)
    | .mdSetFreq f => if s.mdReady then (if f = 0 then raise .zeroFrequency i s else .next (s.setPeriod (period f)))
        else .next s
    | .mdSetDuty d => .next (if s.mdReady then s.setDurations (BitVec.ofNat 32 (dutyOn s.mdPeriod d))
        (BitVec.ofNat 32 (dutyOff s.mdPeriod d)) else s)
    | .mdForward => .next s
    | .mdBackward => .next s
    | .mdStop => .next s := by
  cases i <;> exact whenRunning_of_running h _

/-! ## Steps -/

theorem step_of_halted {s : State} (h : s.halted = true) : step s = .fault .halted := by simp [step, h]

/-- A running block does one of three things: it waits, it faults at decode, or it executes (R51, R76). -/
theorem step_cases {s : State} (h : s.halted = false) :
    (s.port.length < 3 ∧ step s = .next s) ∨
    (∃ c rest e, s.port = c.words ++ rest ∧ decode c = .error e ∧
      step s = .next ((s.withPort rest).takeFault (decodeCause e) c)) ∨
    (∃ c rest i, s.port = c.words ++ rest ∧ decode c = .ok i ∧ step s = exec i (s.withPort rest)) := by
  unfold step
  simp only [h, Bool.false_eq_true, if_false]
  cases ht : takeCommand s.port with
  | none => exact .inl ⟨(takeCommand_eq_none _).mp ht, rfl⟩
  | some p =>
    obtain ⟨c, rest⟩ := p
    cases hd : decode c with
    | error e => exact .inr (.inl ⟨c, rest, e, takeCommand_eq_some ht, hd, by simp [hd]⟩)
    | ok i => exact .inr (.inr ⟨c, rest, i, takeCommand_eq_some ht, hd, by simp [hd]⟩)

end Sys2Proof.Machine
end

