-- ==== Sys2Proof/Laws/Exec.lean ====
section
/-! SUPPORT. What one command can do, said once: it takes one of the operand faults on the condition of its row, or it has
its effect. Later proofs cite `exec_next_cases` and the field lemmas of `effect`. -/

namespace Sys2Proof.Machine

/-- What a command that takes no fault makes of the state. -/
def effect (i : Instr) (s : State) : State :=
  match i with
  | .gpioSetup pin mode => s.emit (.pinSetup pin mode)
  | .gpioRead pin => ((s.emit (.pinRead pin)).drawLevel).respond (s.pinLevel pin)
  | .gpioWrite pin value => s.emit (.pinWrite pin value)
  | .gpioHigh pin => s.emit (.pinWrite pin 1)
  | .gpioLow pin => s.emit (.pinWrite pin 0)
  | .pgInit pin on off => s.startGenerator pin on off
  | .pgRefresh => s.refreshGenerator
  | .pgSetOn d => if s.pgReady then s.setDurations d s.pgOffTime else s
  | .pgSetOff d => if s.pgReady then s.setDurations s.pgOnTime d else s
  | .mdInit pin f => ((s.setPeriod (period f)).startGenerator pin 0 (period f)).markMdReady
  | .mdRefresh => if s.mdReady then s.refreshGenerator else s
  | .mdSetFreq f => if s.mdReady then s.setPeriod (period f) else s
  | .mdSetDuty d => if s.mdReady then s.setDurations (BitVec.ofNat 32 (dutyOn s.mdPeriod d))
      (BitVec.ofNat 32 (dutyOff s.mdPeriod d)) else s
  | .mdForward => s
  | .mdBackward => s
  | .mdStop => s

/-- The condition of a cause's row in 60_exceptions.md R181, for the causes a decoded command can take, after R183's order. -/
def operandFault (k : FaultCause) (i : Instr) (s : State) : Prop :=
  match k with
  | .invalidPin => ∃ pin, i.pinOperand = some pin ∧ pinValid s.platform pin = false
  | .zeroFrequency => (∃ pin, i = .mdInit pin 0 ∧ pinValid s.platform pin = true) ∨ i = .mdSetFreq 0 ∧ s.mdReady = true
  | .invalidMode => ∃ pin mode, i = .gpioSetup pin mode ∧ pinValid s.platform pin = true ∧
      modeValid s.platform mode = false
  | .invalidValue => ∃ pin value, i = .gpioWrite pin value ∧ pinValid s.platform pin = true ∧
      writeValueValid s.platform pin value = false
  | .illegalCommand | .reservedBits => False

/-- Everything a command can do in a running block: fault on a cause whose condition holds, or its effect with no cause's
condition holding. -/
theorem exec_next_cases {s t : State} {i : Instr} (h : exec i s = .next t) :
    s.halted = false ∧
      ((∃ k, operandFault k i s ∧ t = s.takeFault k (encode i)) ∨ ((∀ k, ¬ operandFault k i s) ∧ t = effect i s)) := by
  cases hh : s.halted with
  | true => rw [exec_of_halted hh] at h; cases h
  | false =>
    refine ⟨rfl, ?_⟩
    rw [exec_of_running hh] at h
    have no : (∀ k, ¬ operandFault k i s) ↔ ¬ operandFault .invalidPin i s ∧ ¬ operandFault .zeroFrequency i s ∧
        ¬ operandFault .invalidMode i s ∧ ¬ operandFault .invalidValue i s :=
      ⟨fun h => ⟨h _, h _, h _, h _⟩, fun h k => by cases k <;> simp_all [operandFault]⟩
    rw [no]
    clear no
    cases i <;> simp only [whenPinValid, raise] at h <;> (repeat' split at h) <;> cases h
    all_goals simp_all [Instr.pinOperand, operandFault, effect]
    all_goals
      first
        | exact ⟨.invalidPin, trivial, rfl⟩
        | exact ⟨.invalidMode, trivial, rfl⟩
        | exact ⟨.invalidValue, trivial, rfl⟩
        | exact ⟨.zeroFrequency, trivial, rfl⟩

theorem exec_pgRefresh_of_running {s : State} (h : s.halted = false) : exec .pgRefresh s = .next s.refreshGenerator :=
  exec_of_running h .pgRefresh

/-- A running block executes a command whose no cause's condition holds with its effect. -/
theorem exec_of_no_fault {s : State} {i : Instr} (h : s.halted = false) (hk : ∀ k, ¬ operandFault k i s) :
    exec i s = .next (effect i s) := by
  have total : ∃ t, exec i s = .next t := by
    rw [exec_of_running h]
    cases i <;> simp only [whenPinValid, raise] <;> (repeat' split) <;> exact ⟨_, rfl⟩
  obtain ⟨t, ht⟩ := total
  obtain ⟨-, ⟨k, hk', -⟩ | ⟨-, rfl⟩⟩ := exec_next_cases ht
  · exact absurd hk' (hk k)
  · exact ht

/-! ## What a refresh never touches -/

@[simp] theorem State.refreshGenerator_pgReady (s : State) : s.refreshGenerator.pgReady = s.pgReady := by
  unfold State.refreshGenerator State.transition
  repeat' split
  all_goals rfl

@[simp] theorem State.refreshGenerator_pgPort (s : State) : s.refreshGenerator.pgPort = s.pgPort := by
  unfold State.refreshGenerator State.transition
  repeat' split
  all_goals rfl

@[simp] theorem State.refreshGenerator_pgIndex (s : State) : s.refreshGenerator.pgIndex = s.pgIndex := by
  unfold State.refreshGenerator State.transition
  repeat' split
  all_goals rfl

@[simp] theorem State.refreshGenerator_pgOnTime (s : State) : s.refreshGenerator.pgOnTime = s.pgOnTime := by
  unfold State.refreshGenerator State.transition
  repeat' split
  all_goals rfl

@[simp] theorem State.refreshGenerator_pgOffTime (s : State) : s.refreshGenerator.pgOffTime = s.pgOffTime := by
  unfold State.refreshGenerator State.transition
  repeat' split
  all_goals rfl

@[simp] theorem State.refreshGenerator_mdReady (s : State) : s.refreshGenerator.mdReady = s.mdReady := by
  unfold State.refreshGenerator State.transition
  repeat' split
  all_goals rfl

@[simp] theorem State.refreshGenerator_mdPeriod (s : State) : s.refreshGenerator.mdPeriod = s.mdPeriod := by
  unfold State.refreshGenerator State.transition
  repeat' split
  all_goals rfl

@[simp] theorem State.refreshGenerator_faultCause (s : State) : s.refreshGenerator.faultCause = s.faultCause := by
  unfold State.refreshGenerator State.transition
  repeat' split
  all_goals rfl

@[simp] theorem State.refreshGenerator_faultCmd (s : State) : s.refreshGenerator.faultCmd = s.faultCmd := by
  unfold State.refreshGenerator State.transition
  repeat' split
  all_goals rfl

@[simp] theorem State.refreshGenerator_responses (s : State) : s.refreshGenerator.responses = s.responses := by
  unfold State.refreshGenerator State.transition
  repeat' split
  all_goals rfl

@[simp] theorem State.refreshGenerator_port (s : State) : s.refreshGenerator.port = s.port := by
  unfold State.refreshGenerator State.transition
  repeat' split
  all_goals rfl

@[simp] theorem State.refreshGenerator_platform (s : State) : s.refreshGenerator.platform = s.platform := by
  unfold State.refreshGenerator State.transition
  repeat' split
  all_goals rfl

@[simp] theorem State.refreshGenerator_levelIn (s : State) : s.refreshGenerator.levelIn = s.levelIn := by
  unfold State.refreshGenerator State.transition
  repeat' split
  all_goals rfl

@[simp] theorem State.refreshGenerator_levelDraws (s : State) : s.refreshGenerator.levelDraws = s.levelDraws := by
  unfold State.refreshGenerator State.transition
  repeat' split
  all_goals rfl

/-! ## What no effect touches -/

@[simp] theorem effect_faultCause (i : Instr) (s : State) : (effect i s).faultCause = s.faultCause := by
  cases i <;> simp only [effect]
  all_goals first | rfl | (split <;> simp) | simp

@[simp] theorem effect_faultCmd (i : Instr) (s : State) : (effect i s).faultCmd = s.faultCmd := by
  cases i <;> simp only [effect]
  all_goals first | rfl | (split <;> simp) | simp

@[simp] theorem effect_port (i : Instr) (s : State) : (effect i s).port = s.port := by
  cases i <;> simp only [effect]
  all_goals first | rfl | (split <;> simp) | simp

@[simp] theorem effect_platform (i : Instr) (s : State) : (effect i s).platform = s.platform := by
  cases i <;> simp only [effect]
  all_goals first | rfl | (split <;> simp) | simp

/-! ## Runs -/

theorem run_zero (s : State) : Host.Core.run core 0 s = .next s := rfl

theorem run_succ_of_next {s t : State} (h : step s = .next t) (k : Nat) :
    Host.Core.run core (k + 1) s = Host.Core.run core k t := by
  have h' : core.step s = .next t := h
  simp only [Host.Core.run, h']

theorem run_succ_of_fault {s : State} {r : Fault} (h : step s = .fault r) (k : Nat) :
    Host.Core.run core (k + 1) s = .fault r := by
  have h' : core.step s = .fault r := h
  simp only [Host.Core.run, h']

/-- A step of a running block on a command that decodes executes it. -/
theorem step_of_decode_ok {s : State} {c : Command} {rest : List Word} {i : Instr} (h : s.halted = false)
    (hp : s.port = c.words ++ rest) (hd : decode c = .ok i) : step s = exec i (s.withPort rest) := by
  simp [step, h, hp, takeCommand_words, hd]

/-- A step of a running block on a command that does not decode takes the decode fault. -/
theorem step_of_decode_error {s : State} {c : Command} {rest : List Word} {e : DecodeFault} (h : s.halted = false)
    (hp : s.port = c.words ++ rest) (hd : decode c = .error e) :
    step s = .next ((s.withPort rest).takeFault (decodeCause e) c) := by
  simp [step, h, hp, takeCommand_words, hd]

end Sys2Proof.Machine
end

