-- ==== Sys2Proof/Laws/PerInstr.lean ====
section
/-! SUPPORT. Statements made once per constructor of Instr. The family `WellFormed`: the encoder's command has an assigned
opcode and zeros in every reserved field (30_encoding.md R73, R79). -/

namespace Sys2Proof

/-- R73's columns on a packed command, as conditions on its fields. -/
theorem Command.wellFormed_pack (o p i x : Byte) (a b : Word) : (Command.pack o p i x a b).wellFormed =
    ([0x10, 0x11, 0x12, 0x13, 0x14, 0x20, 0x21, 0x22, 0x23, 0x30, 0x31, 0x32, 0x33, 0x34, 0x35, 0x36].contains o.toNat
      && ([0x10, 0x11, 0x12, 0x13, 0x14, 0x20, 0x30].contains o.toNat || p == 0)
      && ([0x10, 0x11, 0x12, 0x13, 0x14, 0x20, 0x30].contains o.toNat || i == 0)
      && ([0x10].contains o.toNat || x == 0)
      && ([0x12, 0x20, 0x22, 0x23, 0x30, 0x32, 0x33].contains o.toNat || a == 0)
      && ([0x20].contains o.toNat || b == 0)) := by
  have ho : (Command.pack o p i x a b).extractLsb 95 88 = o := Command.opc_pack o p i x a b
  have hp : (Command.pack o p i x a b).extractLsb 87 80 = p := Command.port_pack o p i x a b
  have hi : (Command.pack o p i x a b).extractLsb 79 72 = i := Command.index_pack o p i x a b
  have hx : (Command.pack o p i x a b).extractLsb 71 64 = x := Command.aux_pack o p i x a b
  have ha : (Command.pack o p i x a b).extractLsb 63 32 = a := Command.opA_pack o p i x a b
  have hb : (Command.pack o p i x a b).extractLsb 31 0 = b := Command.opB_pack o p i x a b
  simp only [Command.wellFormed, Command.opcodeAssigned, Command.portOk, Command.indexOk, Command.auxOk,
    Command.operandAOk, Command.operandBOk, Command.opcodeNat, ho, hp, hi, hx, ha, hb]

namespace Laws.WellFormed

/-- The command the encoder gives an instruction is well-formed. -/
def Statement (i : Instr) : Prop := (encode i).wellFormed = true

theorem gpioSetup (pin : Pin) (mode : Byte) : Statement (.gpioSetup pin mode) := by
  simp [Statement, encode, Command.wellFormed_pack]
theorem gpioRead (pin : Pin) : Statement (.gpioRead pin) := by simp [Statement, encode, Command.wellFormed_pack]
theorem gpioWrite (pin : Pin) (value : Word) : Statement (.gpioWrite pin value) := by
  simp [Statement, encode, Command.wellFormed_pack]
theorem gpioHigh (pin : Pin) : Statement (.gpioHigh pin) := by simp [Statement, encode, Command.wellFormed_pack]
theorem gpioLow (pin : Pin) : Statement (.gpioLow pin) := by simp [Statement, encode, Command.wellFormed_pack]
theorem pgInit (pin : Pin) (on off : Word) : Statement (.pgInit pin on off) := by
  simp [Statement, encode, Command.wellFormed_pack]
theorem pgRefresh : Statement .pgRefresh := by simp [Statement, encode, Command.wellFormed_pack]
theorem pgSetOn (d : Word) : Statement (.pgSetOn d) := by simp [Statement, encode, Command.wellFormed_pack]
theorem pgSetOff (d : Word) : Statement (.pgSetOff d) := by simp [Statement, encode, Command.wellFormed_pack]
theorem mdInit (pin : Pin) (f : Word) : Statement (.mdInit pin f) := by simp [Statement, encode, Command.wellFormed_pack]
theorem mdRefresh : Statement .mdRefresh := by simp [Statement, encode, Command.wellFormed_pack]
theorem mdSetFreq (f : Word) : Statement (.mdSetFreq f) := by simp [Statement, encode, Command.wellFormed_pack]
theorem mdSetDuty (d : Word) : Statement (.mdSetDuty d) := by simp [Statement, encode, Command.wellFormed_pack]
theorem mdForward : Statement .mdForward := by simp [Statement, encode, Command.wellFormed_pack]
theorem mdBackward : Statement .mdBackward := by simp [Statement, encode, Command.wellFormed_pack]
theorem mdStop : Statement .mdStop := by simp [Statement, encode, Command.wellFormed_pack]

end Laws.WellFormed

end Sys2Proof
end

