-- ==== Sys2Proof/Tests/Slice0.lean ====
section
/-! SUPPORT. The model's own tests, their expected results taken from spec/95_test_vectors.md and spec/30_encoding.md R84, and
for every obligation with hypotheses a witness: a concrete state and operands that meet them together. -/

namespace Sys2Proof.Tests

open Sys2Proof Sys2Proof.Machine

/-! ## Helpers -/

/-- A generator on pin P0.3 with the phase, the two durations and the baseline given, the clock at `now`. -/
def generator (phase : Phase) (on off last now : Word) : State :=
  { State.reset with
    pgReady := true, pgIndex := 3, pgPhase := phase, pgOnTime := on, pgOffTime := off, pgLastT := last
    trace := [.pinWrite ⟨0, 3⟩ phase.level], clockIn := [now] }

/-- A mapper with that period over a generator with the durations 10 and 10. -/
def mapper (p : Word) : State := { generator .off 10 10 0 10 with mdReady := true, mdPeriod := p }

/-- A block halted on the fault a vector of decode takes (DV1). -/
def stopped : State := { State.reset with faultCause := 1 }

/-- The reset block with words on its port. -/
def waiting (ws : List Word) : State := { State.reset with port := ws }

/-- The reset block with the clock at `now`. -/
def clockAt (now : Word) : State := { State.reset with clockIn := [now] }

/-- The outcome is a next state. -/
def ran : Result → Bool
  | .next _ => true
  | _ => false

/-- The next state of an outcome that has one. -/
def after : Result → State
  | .next t => t
  | _ => State.reset

theorem eq_next_after {r : Result} (h : ran r = true) : r = .next (after r) := by
  cases r <;> simp_all [ran, after]

/-- The phase, the durations and the baseline, as the columns of the vectors PV. -/
def columns (s : State) : Phase × Word × Word × Word := (s.pgPhase, s.pgOnTime, s.pgOffTime, s.pgLastT)

/-! ## Decode (R84; vectors DV) -/

theorem test_decode_gpio_setup : decode 0x100003010000000000000000 = .ok (.gpioSetup ⟨0, 3⟩ 1) := by decide
theorem test_decode_gpio_read : decode 0x110107000000000000000000 = .ok (.gpioRead ⟨1, 7⟩) := by decide
theorem test_decode_gpio_write : decode 0x120209000000000100000000 = .ok (.gpioWrite ⟨2, 9⟩ 1) := by decide
theorem test_decode_gpio_high : decode 0x130003000000000000000000 = .ok (.gpioHigh ⟨0, 3⟩) := by decide
theorem test_decode_gpio_low : decode 0x140003000000000000000000 = .ok (.gpioLow ⟨0, 3⟩) := by decide
theorem test_decode_pg_init : decode 0x200003000000000A00000014 = .ok (.pgInit ⟨0, 3⟩ 10 20) := by decide
theorem test_decode_pg_refresh : decode 0x210000000000000000000000 = .ok .pgRefresh := by decide
theorem test_decode_pg_seton : decode 0x220000000000000500000000 = .ok (.pgSetOn 5) := by decide
theorem test_decode_pg_setoff : decode 0x23000000000003E800000000 = .ok (.pgSetOff 1000) := by decide
theorem test_decode_md_init : decode 0x300100000000003200000000 = .ok (.mdInit ⟨1, 0⟩ 50) := by decide
theorem test_decode_md_refresh : decode 0x310000000000000000000000 = .ok .mdRefresh := by decide
theorem test_decode_md_setfreq : decode 0x320000000000000300000000 = .ok (.mdSetFreq 3) := by decide
theorem test_decode_md_setduty : decode 0x33000000FFFFC00000000000 = .ok (.mdSetDuty 0xFFFFC000) := by decide
theorem test_decode_md_forward : decode 0x340000000000000000000000 = .ok .mdForward := by decide
theorem test_decode_md_backward : decode 0x350000000000000000000000 = .ok .mdBackward := by decide
theorem test_decode_md_stop : decode 0x360000000000000000000000 = .ok .mdStop := by decide
theorem test_decode_unassigned :
    decode 0x000000000000000000000000 = .error .illegalCommand ∧
    decode 0x150000000000000000000000 = .error .illegalCommand ∧
    decode 0xFF0000000000000000000000 = .error .illegalCommand := by decide
theorem test_decode_reserved :
    decode 0x210000010000000000000000 = .error .reservedBits ∧
    decode 0x220000000000000500000001 = .error .reservedBits ∧
    decode 0x200003010000000A00000014 = .error .reservedBits ∧
    decode 0x100003010000000100000000 = .error .reservedBits ∧
    decode 0x340000000000000000000001 = .error .reservedBits := by decide

/-- R52: the words of `pg.init P0.3, 10, 20` as bytes, least significant byte first. -/
theorem test_bytes_little_endian :
    (Command.ofWords 0x20000300 10 20).bytes = [0x00, 0x03, 0x00, 0x20, 0x0A, 0, 0, 0, 0x14, 0, 0, 0] ∧
    decodeBytes [0x00, 0x03, 0x00, 0x20, 0x0A, 0, 0, 0, 0x14, 0, 0, 0] = some (.ok (.pgInit ⟨0, 3⟩ 10 20)) ∧
    decodeBytes [0x00, 0x03, 0x00, 0x20, 0x0A, 0, 0, 0, 0x14, 0, 0] = none := by decide

/-- The table's word of MD.STOP, whole and as its leading byte. -/
theorem test_table_word :
    decodeTableWord 96 0x360000000000000000000000 = some .mdStop ∧ decodeTableWord 8 0x36 = some .mdStop := by decide

/-! ## Well-formedness: one ill-formed command for each check (R73) -/

theorem test_wellFormed_accepts : (0x200003000000000A00000014 : Command).wellFormed = true := by decide
theorem test_wellFormed_opcode : (0x150000000000000000000000 : Command).opcodeAssigned = false ∧
    (0x150000000000000000000000 : Command).wellFormed = false := by decide
theorem test_wellFormed_port : (0x220100000000000500000000 : Command).portOk = false ∧
    (0x220100000000000500000000 : Command).wellFormed = false := by decide
theorem test_wellFormed_index : (0x210001000000000000000000 : Command).indexOk = false ∧
    (0x210001000000000000000000 : Command).wellFormed = false := by decide
theorem test_wellFormed_aux : (0x200003010000000A00000014 : Command).auxOk = false ∧
    (0x200003010000000A00000014 : Command).wellFormed = false := by decide
theorem test_wellFormed_operandA : (0x100003010000000100000000 : Command).operandAOk = false ∧
    (0x100003010000000100000000 : Command).wellFormed = false := by decide
theorem test_wellFormed_operandB : (0x220000000000000500000001 : Command).operandBOk = false ∧
    (0x220000000000000500000001 : Command).wellFormed = false := by decide

/-! ## Assembly text (R79 to R83) -/

theorem test_asm_spacing : Asm.assemble "  PG.Init  P0.3 ,0x0A, 20  ; start".toList
    = some (Command.ofWords 0x20000300 10 20) := by decide
theorem test_asm_duty_not_representable : Asm.assemble "md.setduty 0.3".toList = none := by decide
theorem test_asm_errors : Asm.assemble "pg.seton".toList = none ∧ Asm.assemble "pg.seton 4294967296".toList = none ∧
    Asm.assemble "gpio.read P256.0".toList = none ∧ Asm.assemble "pg.start".toList = none := by decide
theorem test_asm_script : Asm.scriptLine "@120 pg.refresh".toList = some (some 120, .pgRefresh) ∧
    Asm.scriptLine "pg.seton 5".toList = some (none, .pgSetOn 5) := by decide

/-! ## Steps -/

/-- DV5: decode comes before the no-op of a generator that is not ready. -/
theorem test_step_reserved_before_noop :
    (after (step (waiting [0x22000000, 5, 1]))).faultCause = 2 ∧
    (after (step (waiting [0x22000000, 5, 1]))).faultCmd = 0x220000000000000500000001 := by decide
/-- DV1. -/
theorem test_step_illegal : (after (step (waiting [0, 0, 0]))).faultCause = 1 := by decide
/-- R51: two words wait, the third completes `gpio.high P0.3` (GV13). -/
theorem test_step_partial :
    after (step (waiting [0x13000300, 0])) = waiting [0x13000300, 0] ∧
    (after (step ((waiting [0x13000300, 0]).receive [0]))).trace = [.pinWrite ⟨0, 3⟩ 1] := by decide

/-! ## GPIO (vectors GV) -/

/-- GV3. -/
theorem test_gpio_setup : (after (exec (.gpioSetup ⟨0, 3⟩ 2) State.reset)).trace = [.pinSetup ⟨0, 3⟩ 2] := by decide
/-- GV4, GV5: the pin is checked before the mode. -/
theorem test_gpio_setup_faults : (after (exec (.gpioSetup ⟨0, 3⟩ 3) State.reset)).faultCause = 5 ∧
    (after (exec (.gpioSetup ⟨9, 3⟩ 7) State.reset)).faultCause = 3 := by decide
/-- GV7 with the draw 1. -/
theorem test_gpio_read :
    (after (exec (.gpioRead ⟨0, 3⟩) { State.reset with levelIn := [1, 0] })).responses = [1] ∧
    (after (exec (.gpioRead ⟨0, 3⟩) { State.reset with levelIn := [1, 0] })).trace = [.pinRead ⟨0, 3⟩] := by decide
/-- GV11. -/
theorem test_gpio_write_analog :
    (after (exec (.gpioWrite ⟨2, 9⟩ 200) State.reset)).trace = [.pinWrite ⟨2, 9⟩ 200] := by decide
/-- GV10, GV12. -/
theorem test_gpio_write_faults : (after (exec (.gpioWrite ⟨0, 3⟩ 2) State.reset)).faultCause = 6 ∧
    (after (exec (.gpioWrite ⟨3, 0⟩ 0) State.reset)).faultCause = 3 := by decide
/-- GV15. -/
theorem test_gpio_high : (after (exec (.gpioHigh ⟨2, 9⟩) State.reset)).trace = [.pinWrite ⟨2, 9⟩ 1] := by decide
/-- GV17. -/
theorem test_gpio_low_bound_pin :
    (after (exec (.gpioLow ⟨0, 3⟩) (generator .on 10 20 0 0))).pgPhase = .on ∧
    (after (exec (.gpioLow ⟨0, 3⟩) (generator .on 10 20 0 0))).trace = [.pinWrite ⟨0, 3⟩ 1, .pinWrite ⟨0, 3⟩ 0] := by decide

/-! ## Pulse generator (vectors PV) -/

/-- PV3. -/
theorem test_pg_init : columns (after (exec (.pgInit ⟨0, 3⟩ 0 0) (clockAt 7))) = (.off, 0, 0, 7) ∧
    (after (exec (.pgInit ⟨0, 3⟩ 0 0) (clockAt 7))).trace = [.pinWrite ⟨0, 3⟩ 0] := by decide
/-- PV16. -/
theorem test_pg_init_rebinds :
    columns (after (exec (.pgInit ⟨0, 4⟩ 10 10) (generator .on 10 10 40 50))) = (.off, 10, 10, 50) ∧
    (after (exec (.pgInit ⟨0, 4⟩ 10 10) (generator .on 10 10 40 50))).boundPin = ⟨0, 4⟩ := by decide
/-- PV6, PV7. -/
theorem test_pg_refresh_boundary :
    columns (after (exec .pgRefresh (generator .off 10 20 100 119))) = (.off, 10, 20, 100) ∧
    columns (after (exec .pgRefresh (generator .off 10 20 100 120))) = (.on, 10, 20, 120) := by decide
/-- PV10, PV11. -/
theorem test_pg_refresh_wrap :
    columns (after (exec .pgRefresh (generator .on 20 20 0xFFFFFFF0 3))) = (.on, 20, 20, 0xFFFFFFF0) ∧
    columns (after (exec .pgRefresh (generator .on 20 20 0xFFFFFFF0 4))) = (.off, 20, 20, 4) := by decide
/-- PV17, its first command. -/
theorem test_pg_seton : columns (after (exec (.pgSetOn 10) (generator .on 50 20 100 0))) = (.on, 10, 20, 100) := by decide
/-- PV19, its first command. -/
theorem test_pg_setoff : columns (after (exec (.pgSetOff 1000) (generator .off 10 20 0 0))) = (.off, 10, 1000, 0) := by
  decide

/-! ## Duty-cycle mapper (vectors MV and the two tables of section 2.4) -/

/-- MV5. -/
theorem test_md_init : columns (after (exec (.mdInit ⟨1, 0⟩ 50) (clockAt 100))) = (.off, 0, 20, 100) ∧
    (after (exec (.mdInit ⟨1, 0⟩ 50) (clockAt 100))).mdPeriod = 20 := by decide
/-- MV6, MV7. -/
theorem test_md_init_faults : (after (exec (.mdInit ⟨1, 0⟩ 0) State.reset)).faultCause = 4 ∧
    (after (exec (.mdInit ⟨9, 0⟩ 0) State.reset)).faultCause = 3 := by decide
/-- MV9. -/
theorem test_md_refresh_not_ready :
    (after (exec .mdRefresh (generator .off 10 20 0 30))).pgPhase = .off := by decide
/-- MV14, its step at 110. -/
theorem test_md_refresh : columns (after (exec .mdRefresh (mapper 20))) = (.on, 10, 10, 10) := by decide
/-- MV11. -/
theorem test_md_setfreq : (after (exec (.mdSetFreq 3) (mapper 20))).mdPeriod = 333 ∧
    columns (after (exec (.mdSetFreq 3) (mapper 20))) = (.off, 10, 10, 0) := by decide
/-- MV8. -/
theorem test_md_setfreq_zero : (after (exec (.mdSetFreq 0) (mapper 20))).faultCause = 4 ∧
    (after (exec (.mdSetFreq 0) (mapper 20))).faultCmd = 0x320000000000000000000000 := by decide
/-- MV12 and the column of period 333: a fraction that rounds down, and both clamps. -/
theorem test_md_setduty :
    columns (after (exec (.mdSetDuty 0x00005555) (mapper 333))) = (.off, 110, 223, 0) ∧
    columns (after (exec (.mdSetDuty 0x0000FFFF) (mapper 333))) = (.off, 332, 1, 0) ∧
    columns (after (exec (.mdSetDuty 0x80000000) (mapper 333))) = (.off, 0, 333, 0) ∧
    columns (after (exec (.mdSetDuty 0x7FFFFFFF) (mapper 333))) = (.off, 333, 0, 0) := by decide
/-- The table of periods. -/
theorem test_period : [1, 2, 3, 7, 50, 100, 600, 999, 1000, 1001, 0xFFFFFFFF].map period
    = [1000, 500, 333, 142, 20, 10, 1, 1, 1, 0, 0] := by decide
/-- MV10, for each direction hook. -/
theorem test_md_forward : after (exec .mdForward (mapper 20)) = mapper 20 := by decide
theorem test_md_backward : after (exec .mdBackward (mapper 20)) = mapper 20 := by decide
theorem test_md_stop : after (exec .mdStop (mapper 20)) = mapper 20 := by decide

/-! ## Witnesses of the obligations' hypotheses

`exec i s = .next (after (exec i s))` says that the command answers a next state there. -/

theorem witness_DecodedCommandReencodes :
    decode 0x300100000000003200000000 = .ok (.mdInit ⟨1, 0⟩ 50) := by decide

/-- Both ends of each unassigned range of R75. -/
theorem witness_MalformedCommandFaults_illegal :
    ∀ op ∈ [0x00, 0x0F, 0x15, 0x1F, 0x24, 0x2F, 0x37, 0xFF],
      let c := Command.pack (BitVec.ofNat 8 op) 0 0 0 7 0
      (waiting (c.words ++ [1])).halted = false ∧ (waiting (c.words ++ [1])).port = c.words ++ [1] ∧
      (c.opcodeNat ≤ 0x0F ∨ 0x15 ≤ c.opcodeNat ∧ c.opcodeNat ≤ 0x1F ∨ 0x24 ≤ c.opcodeNat ∧ c.opcodeNat ≤ 0x2F ∨
        0x37 ≤ c.opcodeNat) := by decide

theorem witness_MalformedCommandFaults_reserved :
    let c : Command := 0x210000010000000000000000
    (waiting c.words).halted = false ∧ (waiting c.words).port = c.words ++ [] ∧ c.opcodeAssigned = true ∧
      c.wellFormed = false := by decide

theorem witness_AssembledCommandDecodes :
    Asm.assemble "md.setduty 0.5".toList = some (Command.ofWords 0x33000000 0x00008000 0) := by decide

theorem witness_TableWordRunsItsInstruction : (waiting [1, 2]).halted = false := by decide

theorem witness_StepRunsDecodedCommand_waits :
    (waiting []).halted = false ∧ (waiting []).port.length < 3 ∧
    (waiting [0x21000000, 0]).halted = false ∧ (waiting [0x21000000, 0]).port.length < 3 := by decide

theorem witness_StepRunsDecodedCommand_runs :
    (waiting [0x21000000, 0, 0, 9]).halted = false ∧ (waiting [0x21000000, 0, 0, 9]).port = [0x21000000, 0, 0, 9] ∧
    decode (Command.ofWords 0x21000000 0 0) = .ok .pgRefresh := by decide

theorem witness_StepRunsDecodedCommand_malformed :
    (waiting [0x15000000, 0, 0, 9]).halted = false ∧ (waiting [0x15000000, 0, 0, 9]).port = [0x15000000, 0, 0, 9] ∧
    decode (Command.ofWords 0x15000000 0 0) = .error .illegalCommand := by decide

theorem witness_HaltedBlockTakesNoStep : stopped.halted = true ∧ stopped.faultCause ≠ 0 := by decide

/-- Two generator commands in a row, on a clock that answers 0 and then 20. -/
def twoCommands : State :=
  { waiting ((encode (.pgInit ⟨0, 3⟩ 10 20)).words ++ (encode .pgRefresh).words ++ [9]) with clockIn := [0, 20] }

theorem witness_CommandsRunInArrivalOrder :
    twoCommands.halted = false ∧
    twoCommands.port = (encode (.pgInit ⟨0, 3⟩ 10 20)).words ++ (encode .pgRefresh).words ++ [9] ∧
    let r := exec (.pgInit ⟨0, 3⟩ 10 20) { twoCommands with port := (encode .pgRefresh).words ++ [9] }
    r = .next (after r) ∧ (after r).halted = false :=
  ⟨by decide, by decide, eq_next_after (by decide), by decide⟩

/-- DV4, and `gpio.read P3.0` on a platform without that pin: a fault at decode and one in the command. -/
theorem witness_FaultIsPrecise :
    (waiting [0x21000001, 0, 0]).halted = false ∧
    step (waiting [0x21000001, 0, 0]) = .next (after (step (waiting [0x21000001, 0, 0]))) ∧
    (after (step (waiting [0x21000001, 0, 0]))).faultCause ≠ 0 ∧
    step (waiting [0x11030000, 0, 0]) = .next (after (step (waiting [0x11030000, 0, 0]))) ∧
    (after (step (waiting [0x11030000, 0, 0]))).faultCause ≠ 0 :=
  ⟨by decide, eq_next_after (by decide), by decide, eq_next_after (by decide), by decide⟩

/-- Every cause a decoded command can take is taken, and none. -/
theorem witness_FaultExactlyWhenItsCauseHolds :
    State.reset.halted = false ∧
    (∀ i ∈ [Instr.gpioRead ⟨3, 0⟩, .mdInit ⟨0, 16⟩ 0, .mdInit ⟨0, 15⟩ 0, .gpioSetup ⟨2, 15⟩ 3, .gpioWrite ⟨2, 8⟩ 2,
        .gpioWrite ⟨2, 9⟩ 2, .mdSetFreq 0],
      ran (exec i State.reset) = true) ∧
    [Instr.gpioRead ⟨3, 0⟩, .mdInit ⟨0, 16⟩ 0, .mdInit ⟨0, 15⟩ 0, .gpioSetup ⟨2, 15⟩ 3, .gpioWrite ⟨2, 8⟩ 2,
        .gpioWrite ⟨2, 9⟩ 2, .mdSetFreq 0].map (fun i => (after (exec i State.reset)).faultCause)
      = [3, 3, 4, 5, 6, 0, 0] ∧
    (after (exec (.mdSetFreq 0) (mapper 20))).faultCause = 4 := by decide

theorem witness_RunningBlockAlwaysSteps : State.reset.halted = false ∧ (mapper 20).halted = false := by decide

/-- A mapper that is ready and bound, with a refresh next on its port. -/
def running : State := { mapper 20 with port := (encode .mdRefresh).words }

theorem witness_StepKeepsTheInvariant : running.Inv ∧ step running = .next (after (step running)) :=
  ⟨⟨by decide, by decide, by decide, by decide, by decide⟩, eq_next_after (by decide)⟩

/-- `md.init P1.0, 1` and then `md.refresh` from reset: the mapper is ready, its period 1000. -/
def mapperRun : Result :=
  Host.Core.run core 2 { State.resetOn Platform.reference with
    port := (encode (.mdInit ⟨1, 0⟩ 1)).words ++ (encode .mdRefresh).words, clockIn := [5, 1005], levelIn := [] }

theorem witness_MapperReadyImpliesGeneratorReadyAndPeriod :
    mapperRun = .next (after mapperRun) ∧ (after mapperRun).mdReady = true ∧ (after mapperRun).mdPeriod = 1000 :=
  ⟨eq_next_after (by decide), by decide, by decide⟩

/-- Each register is changed by some command. -/
theorem witness_RegistersChangeOnlyByTheirWriters :
    let init := after (exec (.mdInit ⟨1, 7⟩ 50) (clockAt 100))
    exec (.mdInit ⟨1, 7⟩ 50) (clockAt 100) = .next init ∧ init.pgReady ≠ (clockAt 100).pgReady ∧
    init.pgPort ≠ (clockAt 100).pgPort ∧ init.pgLastT ≠ (clockAt 100).pgLastT ∧
    init.pgOffTime ≠ (clockAt 100).pgOffTime ∧ init.mdReady ≠ (clockAt 100).mdReady ∧
    init.mdPeriod ≠ (clockAt 100).mdPeriod :=
  ⟨eq_next_after (by decide), by decide, by decide, by decide, by decide, by decide, by decide⟩

theorem witness_RegistersChangeOnlyByTheirWriters_setters :
    let on := after (exec (.pgSetOn 7) (mapper 20))
    let bad := after (exec (.gpioLow ⟨3, 0⟩) (mapper 20))
    exec (.pgSetOn 7) (mapper 20) = .next on ∧ on.pgOnTime ≠ (mapper 20).pgOnTime ∧
    exec (.gpioLow ⟨3, 0⟩) (mapper 20) = .next bad ∧ bad.faultCause ≠ (mapper 20).faultCause :=
  ⟨eq_next_after (by decide), by decide, eq_next_after (by decide), by decide⟩

theorem witness_InputsAreDrawnAtMostOnce :
    exec .mdRefresh (mapper 20) = .next (after (exec .mdRefresh (mapper 20))) ∧
    exec (.gpioRead ⟨0, 0⟩) State.reset = .next (after (exec (.gpioRead ⟨0, 0⟩) State.reset)) :=
  ⟨eq_next_after (by decide), eq_next_after rfl⟩

theorem witness_TraceAndResponsesOnlyGrow :
    exec (.gpioRead ⟨2, 15⟩) { State.reset with levelIn := [1] }
      = .next (after (exec (.gpioRead ⟨2, 15⟩) { State.reset with levelIn := [1] })) := eq_next_after (by decide)

/-- Two blocks that have executed nothing and differ in every register R35 gives no value at reset. -/
theorem witness_UnwrittenRegistersAreNeverRead :
    (clockAt 7).AgreeOnWritten { clockAt 7 with
      pgPort := 9, pgIndex := 8, pgPhase := .on, pgOnTime := 7, pgOffTime := 6, pgLastT := 5, mdPeriod := 4, faultCmd := 3 } :=
  ⟨rfl, rfl, rfl, rfl, rfl, rfl, rfl, rfl, rfl, rfl, rfl, by decide, by decide, by decide⟩

theorem witness_RepeatedCommandLeavesRegisters :
    let s : State := { generator .off 10 20 100 119 with clockIn := [119, 119] }
    let t := after (exec .pgRefresh s)
    exec .pgRefresh s = .next t ∧ t.halted = false ∧ t.clockSample = s.clockSample ∧
    t.activeDuration ≠ 0 ∧ t.pgPhase = s.pgPhase ∧ exec .pgRefresh t = .next (after (exec .pgRefresh t)) :=
  ⟨eq_next_after (by decide), by decide, by decide, by decide, by decide, eq_next_after (by decide)⟩

theorem witness_RepeatedCommandLeavesRegisters_init :
    let s : State := { State.reset with clockIn := [8, 8] }
    let t := after (exec (.pgInit ⟨0, 3⟩ 1 0) s)
    exec (.pgInit ⟨0, 3⟩ 1 0) s = .next t ∧ t.halted = false ∧ t.clockSample = s.clockSample ∧
    exec (.pgInit ⟨0, 3⟩ 1 0) t = .next (after (exec (.pgInit ⟨0, 3⟩ 1 0) t)) :=
  ⟨eq_next_after (by decide), by decide, by decide, eq_next_after (by decide)⟩

/-- A platform with the further modes 3 and 255. -/
def moreModes : Platform := { Platform.reference with furtherModes := [3, 255] }

/-- The pins at the ends of the reference platform exist, their neighbours do not; modes 2 and 3 on both platforms. -/
theorem witness_GpioSetupConfiguresPin :
    State.reset.halted = false ∧
    pinValid State.reset.platform ⟨2, 15⟩ = true ∧ pinValid State.reset.platform ⟨0, 0⟩ = true ∧
    pinValid State.reset.platform ⟨3, 0⟩ = false ∧ pinValid State.reset.platform ⟨2, 16⟩ = false ∧
    modeValid State.reset.platform 2 = true ∧ modeValid State.reset.platform 3 = false ∧
    modeValid moreModes 3 = true ∧ modeValid moreModes 4 = false ∧ (2 : Byte).toNat ≤ 2 ∧ 3 ≤ (3 : Byte).toNat := by decide

theorem witness_GpioReadReturnsDrawnLevel :
    ({ State.reset with levelIn := [1, 0] } : State).halted = false ∧ pinValid State.reset.platform ⟨2, 15⟩ = true ∧
    pinValid State.reset.platform ⟨255, 255⟩ = false ∧
    ({ State.reset with levelIn := [1, 0] } : State).levelIn = 1 :: [0] := by decide

theorem witness_GpioWriteDrivesPin :
    State.reset.halted = false ∧ pinValid State.reset.platform ⟨2, 8⟩ = true ∧ (1 : Word).toNat ≤ 1 ∧
    2 ≤ (2 : Word).toNat ∧ analogWriteCapable State.reset.platform ⟨2, 8⟩ = false ∧
    pinValid State.reset.platform ⟨2, 9⟩ = true ∧ analogWriteCapable State.reset.platform ⟨2, 9⟩ = true ∧
    pinValid State.reset.platform ⟨0, 16⟩ = false := by decide

theorem witness_GpioHighDrivesPinHigh :
    State.reset.halted = false ∧ pinValid State.reset.platform ⟨0, 15⟩ = true ∧
    pinValid State.reset.platform ⟨0, 16⟩ = false := by decide

theorem witness_GpioLowDrivesPinLow :
    (mapper 20).halted = false ∧ pinValid (mapper 20).platform ⟨0, 3⟩ = true ∧
    pinValid (mapper 20).platform ⟨3, 3⟩ = false := by decide

theorem witness_GatewayIsStateless :
    State.reset.halted = false ∧ (mapper 20).halted = false ∧ (mapper 20).platform = State.reset.platform ∧
    (mapper 20).levelIn = State.reset.levelIn ∧ (mapper 20).levelDraws = State.reset.levelDraws ∧
    exec (.gpioRead ⟨0, 3⟩) State.reset = .next (after (exec (.gpioRead ⟨0, 3⟩) State.reset)) ∧
    (after (exec (.gpioHigh ⟨0, 3⟩) State.reset)).halted = false :=
  ⟨by decide, by decide, by decide, by decide, by decide, eq_next_after rfl, by decide⟩

theorem witness_BoundPinWriteLeavesGenerator :
    let s := generator .on 10 20 0 5
    s.pgReady = true ∧ s.halted = false ∧
    exec (.gpioWrite s.boundPin 0) s = .next (after (exec (.gpioWrite s.boundPin 0) s)) ∧
    (after (exec (.gpioWrite s.boundPin 0) s)).halted = false ∧
    exec (.gpioHigh s.boundPin) s = .next (after (exec (.gpioHigh s.boundPin) s)) ∧
    (after (exec (.gpioHigh s.boundPin) s)).halted = false ∧
    exec (.gpioLow s.boundPin) s = .next (after (exec (.gpioLow s.boundPin) s)) ∧
    (after (exec (.gpioLow s.boundPin) s)).halted = false :=
  ⟨by decide, by decide, eq_next_after (by decide), by decide, eq_next_after (by decide), by decide,
    eq_next_after (by decide), by decide⟩

theorem witness_PgInitStartsGeneratorInOff :
    (mapper 20).halted = false ∧ pinValid (mapper 20).platform ⟨2, 15⟩ = true ∧
    pinValid (mapper 20).platform ⟨9, 0⟩ = false := by decide

/-- Elapsed exactly the duration, and one millisecond less, in each phase. -/
theorem witness_PgRefreshMakesDueTransition :
    State.reset.halted = false ∧ State.reset.pgReady = false ∧
    (∀ s ∈ [generator .off 10 20 100 120, generator .off 10 20 100 119, generator .on 10 20 100 110,
        generator .on 10 20 100 109], s.halted = false ∧ s.pgReady = true) ∧
    (generator .off 10 20 100 120).pgOffTime.toNat
      ≤ ((generator .off 10 20 100 120).clockSample - (generator .off 10 20 100 120).pgLastT).toNat ∧
    ((generator .off 10 20 100 119).clockSample - (generator .off 10 20 100 119).pgLastT).toNat
      < (generator .off 10 20 100 119).pgOffTime.toNat ∧
    (generator .on 10 20 100 110).pgOnTime.toNat
      ≤ ((generator .on 10 20 100 110).clockSample - (generator .on 10 20 100 110).pgLastT).toNat ∧
    ((generator .on 10 20 100 109).clockSample - (generator .on 10 20 100 109).pgLastT).toNat
      < (generator .on 10 20 100 109).pgOnTime.toNat := by decide

theorem witness_PgSetOnWritesOnTime :
    State.reset.halted = false ∧ State.reset.pgReady = false ∧ (generator .on 1 2 3 4).halted = false ∧
    (generator .on 1 2 3 4).pgReady = true := by decide

theorem witness_PgSetOffWritesOffTime :
    State.reset.halted = false ∧ State.reset.pgReady = false ∧ (generator .off 1 2 3 4).halted = false ∧
    (generator .off 1 2 3 4).pgReady = true := by decide

/-- PV11 as real times: the transition at 2^32 - 16 ms, the refresh 20 ms later, past the wrap. -/
theorem witness_ElapsedTimeSurvivesClockWrap :
    let s := generator .on 20 20 0xFFFFFFF0 4
    s.halted = false ∧ s.pgReady = true ∧ 20 < 2 ^ 32 ∧ s.pgLastT = sampleAt 4294967280 ∧
    s.clockIn = sampleAt (4294967280 + 20) :: [] ∧ s.activeDuration.toNat ≤ 20 := by decide

/-- S5: on-time 0, entered at 20. -/
theorem witness_ZeroDurationPhaseIsLeftAtNextRefresh :
    let s := generator .off 0 20 0 20
    s.halted = false ∧ s.pgReady = true ∧ exec .pgRefresh s = .next (after (exec .pgRefresh s)) ∧
    (after (exec .pgRefresh s)).pgPhase ≠ s.pgPhase ∧ (after (exec .pgRefresh s)).activeDuration = 0 :=
  ⟨by decide, by decide, eq_next_after (by decide), by decide, by decide⟩

/-- PV17 (the phase in progress) and PV18 (the other phase). -/
theorem witness_SetterIsHonouredAtNextComparison :
    let s := generator .on 50 20 100 121
    let t := after (exec (.pgSetOn 10) s)
    let t' := after (exec (.pgSetOff 5) s)
    s.halted = false ∧ s.pgReady = true ∧ s.pgPhase = .on ∧ exec (.pgSetOn 10) s = .next t ∧
    exec .pgRefresh t = .next (after (exec .pgRefresh t)) ∧ exec (.pgSetOff 5) s = .next t' ∧
    exec .pgRefresh t' = .next (after (exec .pgRefresh t')) :=
  ⟨by decide, by decide, by decide, eq_next_after (by decide), eq_next_after (by decide), eq_next_after (by decide),
    eq_next_after (by decide)⟩

/-- S3 and S3b, and one millisecond short of the duration. -/
theorem witness_RefreshBeforeDueIsIdempotent :
    (generator .off 10 20 0 0).halted = false ∧ (generator .off 10 20 0 0).pgReady = true ∧
    (generator .off 10 20 0 0).activeDuration ≠ 0 ∧ (generator .off 10 20 0 0).clockSample = 0 ∧
    0 < ((generator .off 10 20 0 19).clockSample - (generator .off 10 20 0 19).pgLastT).toNat ∧
    ((generator .off 10 20 0 19).clockSample - (generator .off 10 20 0 19).pgLastT).toNat
      < (generator .off 10 20 0 19).activeDuration.toNat ∧
    (generator .off 10 0 0 0).pgReady = true ∧ (generator .off 10 0 0 0).activeDuration = 0 := by decide

/-- S4: the phase OFF of 20 ms entered at 0 and polled at 15 and then at `final`. -/
def polled (final : Nat) : State :=
  { generator .off 10 20 0 0 with
    clockIn := ([15] ++ [final]).map sampleAt
    port := (List.replicate 2 (encode .pgRefresh)).flatMap Command.words ++ [7] }

theorem witness_PhaseLengthUnderPolling :
    (∀ final ∈ [19, 20, 25],
      (polled final).halted = false ∧ (polled final).pgReady = true ∧ (polled final).pgLastT = sampleAt 0 ∧
      (polled final).clockIn = ([15] ++ [final]).map sampleAt ∧
      (polled final).port = (List.replicate (1 + 1) (encode .pgRefresh)).flatMap Command.words ++ [7]) ∧
    (∀ t ∈ [15], t - 0 < (polled 19).activeDuration.toNat) ∧
    19 - 0 < (polled 19).activeDuration.toNat ∧ (polled 20).activeDuration.toNat ≤ 20 - 0 := by decide

theorem witness_PhaseLengthUnderPolling_premises :
    ClockPremises 0 ([15] ++ [19]) ∧ ClockPremises 0 ([15] ++ [20]) ∧ ClockPremises 0 ([15] ++ [25]) := by
  simp [ClockPremises]

theorem witness_PhaseChangesDriveTheBoundPin :
    let s := generator .on 10 20 100 110
    exec .pgRefresh s = .next (after (exec .pgRefresh s)) ∧ (after (exec .pgRefresh s)).pgPhase ≠ s.pgPhase :=
  ⟨eq_next_after (by decide), by decide⟩

theorem witness_UninitializedCommandsAreNoOps :
    State.reset.halted = false ∧ State.reset.pgReady = false ∧ State.reset.mdReady = false ∧
    (generator .off 10 20 0 30).mdReady = false ∧ (generator .off 10 20 0 30).pgReady = true := by decide

theorem witness_MdInitStartsMapper :
    (mapper 20).halted = false ∧ State.reset.halted = false ∧ pinValid State.reset.platform ⟨1, 0⟩ = true ∧
    pinValid State.reset.platform ⟨9, 0⟩ = false ∧ (1 : Word) ≠ 0 ∧ (1001 : Word) ≠ 0 := by decide

/-- Elapsed exactly the duration, and one millisecond less. -/
theorem witness_MdRefreshDelegatesToGenerator :
    State.reset.halted = false ∧ State.reset.mdReady = false ∧ (mapper 20).halted = false ∧ (mapper 20).mdReady = true ∧
    (mapper 20).pgReady = true ∧
    (mapper 20).activeDuration.toNat ≤ ((mapper 20).clockSample - (mapper 20).pgLastT).toNat ∧
    (let s : State := { mapper 20 with clockIn := [9] }
     s.mdReady = true ∧ s.pgReady = true ∧ (s.clockSample - s.pgLastT).toNat < s.activeDuration.toNat) := by decide

theorem witness_MdSetFreqRecomputesPeriodOnly :
    State.reset.halted = false ∧ State.reset.mdReady = false ∧ (mapper 20).halted = false ∧ (mapper 20).mdReady = true ∧
    (1 : Word) ≠ 0 := by decide

theorem witness_MdSetDutySetsDurations :
    State.reset.halted = false ∧ State.reset.mdReady = false ∧ (mapper 20).halted = false ∧ (mapper 20).mdReady = true := by
  decide

theorem witness_DirectionHooksAreNoOps : State.reset.halted = false ∧ (mapper 20).halted = false := by decide

theorem witness_PeriodRangeAndZeroPeriod :
    1 ≤ (1 : Word).toNat ∧ 1 ≤ (1000 : Word).toNat ∧ 1 ≤ (1001 : Word).toNat ∧
    (mapper 0).halted = false ∧ (mapper 0).mdReady = true ∧ (mapper 0).mdPeriod = 0 ∧
    (generator .on 0 0 5 5).halted = false ∧ (generator .on 0 0 5 5).pgReady = true ∧
    (generator .on 0 0 5 5).pgOnTime = 0 ∧ (generator .on 0 0 5 5).pgOffTime = 0 ∧
    (let s := after (exec (.mdInit ⟨0, 1⟩ 1001) (clockAt 0))
     s.halted = false ∧ s.pgReady = true ∧ s.mdReady = true ∧ s.pgOnTime = 0 ∧ s.pgOffTime = 0) := by decide

theorem witness_DurationsSumToPeriod :
    exec (.mdInit ⟨1, 0⟩ 3) (clockAt 0) = .next (after (exec (.mdInit ⟨1, 0⟩ 3) (clockAt 0))) ∧
    (after (exec (.mdInit ⟨1, 0⟩ 3) (clockAt 0))).halted = false ∧
    (mapper 20).mdReady = true ∧ exec (.mdSetDuty 0x5555) (mapper 20) = .next (after (exec (.mdSetDuty 0x5555) (mapper 20))) ∧
    (after (exec (.mdSetDuty 0x5555) (mapper 20))).halted = false ∧ (mapper 20).halted = false ∧ 0 < (3 : Word).toNat :=
  ⟨eq_next_after (by decide), by decide, by decide, eq_next_after (by decide), by decide, by decide, by decide⟩

/-- The operands at and beside the ends of the range. -/
theorem witness_DutyCycleIsClamped :
    (0 : Word).toInt ≤ 0 ∧ (0xFFFFFFFF : Word).toInt ≤ 0 ∧ 65536 ≤ (0x00010000 : Word).toInt ∧
    65536 ≤ (0x00010001 : Word).toInt ∧ (0x80000000 : Word).toInt ≤ 0 := by decide

theorem witness_GeneratorCommandsIgnoreMapper :
    exec .pgRefresh (mapper 20) = .next (after (exec .pgRefresh (mapper 20))) ∧
    exec (.pgInit ⟨9, 0⟩ 1 1) State.reset = .next (after (exec (.pgInit ⟨9, 0⟩ 1 1) State.reset)) :=
  ⟨eq_next_after (by decide), eq_next_after (by decide)⟩

end Sys2Proof.Tests
end

section
/-! SUPPORT. Which registers the effect of a command writes, one lemma per register or group of the table of 10_state.md
R35, and what it appends to the trace and to the responses. -/

namespace Sys2Proof

/-- The two commands that bind the generator to a pin: they write every register of it (R128, R155). -/
def Instr.StartsGenerator (i : Instr) : Prop := (∃ p a b, i = .pgInit p a b) ∨ ∃ p f, i = .mdInit p f

/-- The commands of the GPIO gateway (40_gpio.md R103 to R107). -/
def Instr.IsGateway (i : Instr) : Prop :=
  (∃ p m, i = .gpioSetup p m) ∨ (∃ p, i = .gpioRead p) ∨ (∃ p v, i = .gpioWrite p v) ∨ (∃ p, i = .gpioHigh p) ∨
    ∃ p, i = .gpioLow p

theorem Instr.StartsGenerator.pgInit (p : Pin) (a b : Word) : (Instr.pgInit p a b).StartsGenerator :=
  .inl ⟨p, a, b, rfl⟩

theorem Instr.StartsGenerator.mdInit (p : Pin) (f : Word) : (Instr.mdInit p f).StartsGenerator :=
  .inr ⟨p, f, rfl⟩

namespace Machine

/-! ## Registers -/

/-- No effect clears PG_READY, and an init command is what sets it (R23). -/
theorem effect_pgReady (i : Instr) (s : State) :
    (effect i s).pgReady = s.pgReady ∨ (effect i s).pgReady = true ∧ i.StartsGenerator := by
  cases i with
  | pgInit p a b => exact .inr ⟨rfl, .pgInit p a b⟩
  | mdInit p f => exact .inr ⟨rfl, .mdInit p f⟩
  | _ => left; simp [effect, apply_ite State.pgReady]

/-- Only an init command writes PG_READY or the binding, and it binds its own pin operand (R23, R24). -/
theorem effect_binding (i : Instr) (s : State) :
    ((effect i s).pgReady = s.pgReady ∧ (effect i s).pgPort = s.pgPort ∧ (effect i s).pgIndex = s.pgIndex) ∨
      i.StartsGenerator ∧ i.pinOperand = some (effect i s).boundPin := by
  cases i with
  | pgInit p a b => exact .inr ⟨.pgInit p a b, rfl⟩
  | mdInit p f => exact .inr ⟨.mdInit p f, rfl⟩
  | _ => left; simp [effect, apply_ite State.pgReady, apply_ite State.pgPort, apply_ite State.pgIndex]

/-- Only an init or a refresh writes the phase and the baseline (R25, R28). -/
theorem effect_phase (i : Instr) (s : State) :
    ((effect i s).pgPhase = s.pgPhase ∧ (effect i s).pgLastT = s.pgLastT) ∨
      (∃ p a b, i = .pgInit p a b) ∨ (∃ p f, i = .mdInit p f) ∨ i = .pgRefresh ∨ i = .mdRefresh := by
  cases i with
  | pgInit p a b => exact .inr (.inl ⟨p, a, b, rfl⟩)
  | mdInit p f => exact .inr (.inr (.inl ⟨p, f, rfl⟩))
  | pgRefresh => exact .inr (.inr (.inr (.inl rfl)))
  | mdRefresh => exact .inr (.inr (.inr (.inr rfl)))
  | _ => left; simp [effect, apply_ite State.pgPhase, apply_ite State.pgLastT]

theorem effect_pgOnTime (i : Instr) (s : State) :
    (effect i s).pgOnTime = s.pgOnTime ∨
      (∃ p a b, i = .pgInit p a b) ∨ (∃ d, i = .pgSetOn d) ∨ (∃ p f, i = .mdInit p f) ∨ ∃ d, i = .mdSetDuty d := by
  cases i with
  | pgInit p a b => exact .inr (.inl ⟨p, a, b, rfl⟩)
  | pgSetOn d => exact .inr (.inr (.inl ⟨d, rfl⟩))
  | mdInit p f => exact .inr (.inr (.inr (.inl ⟨p, f, rfl⟩)))
  | mdSetDuty d => exact .inr (.inr (.inr (.inr ⟨d, rfl⟩)))
  | _ => left; simp [effect, apply_ite State.pgOnTime]

theorem effect_pgOffTime (i : Instr) (s : State) :
    (effect i s).pgOffTime = s.pgOffTime ∨
      (∃ p a b, i = .pgInit p a b) ∨ (∃ d, i = .pgSetOff d) ∨ (∃ p f, i = .mdInit p f) ∨ ∃ d, i = .mdSetDuty d := by
  cases i with
  | pgInit p a b => exact .inr (.inl ⟨p, a, b, rfl⟩)
  | pgSetOff d => exact .inr (.inr (.inl ⟨d, rfl⟩))
  | mdInit p f => exact .inr (.inr (.inr (.inl ⟨p, f, rfl⟩)))
  | mdSetDuty d => exact .inr (.inr (.inr (.inr ⟨d, rfl⟩)))
  | _ => left; simp [effect, apply_ite State.pgOffTime]

/-- No effect clears MD_READY, and MD.INIT is what sets it (R29). -/
theorem effect_mdReady (i : Instr) (s : State) :
    (effect i s).mdReady = s.mdReady ∨ (effect i s).mdReady = true ∧ ∃ p f, i = .mdInit p f := by
  cases i with
  | mdInit p f => exact .inr ⟨rfl, p, f, rfl⟩
  | _ => left; simp [effect, apply_ite State.mdReady, State.startGenerator]

/-- Only MD.INIT and MD.SETFREQ write MD_PERIOD, and what they write is a frequency's period (R30, R152). -/
theorem effect_mdPeriod (i : Instr) (s : State) :
    (effect i s).mdPeriod = s.mdPeriod ∨
      (∃ f, (effect i s).mdPeriod = period f) ∧ ((∃ p f, i = .mdInit p f) ∨ ∃ f, i = .mdSetFreq f) := by
  cases i with
  | mdInit p f => exact .inr ⟨⟨f, rfl⟩, .inl ⟨p, f, rfl⟩⟩
  | mdSetFreq f =>
    simp only [effect]
    split
    · exact .inr ⟨⟨f, rfl⟩, .inr ⟨f, rfl⟩⟩
    · exact .inl rfl
  | _ => left; simp [effect, apply_ite State.mdPeriod, State.startGenerator]

/-! ## The trace and the responses -/

/-- From `s` to `t` the block has emitted exactly one event, the write of `t`'s level to `t`'s bound pin (R39, R125). -/
def State.Drives (s t : State) : Prop := t.trace = s.trace ++ [.pinWrite t.boundPin t.pgPhase.level]

theorem State.Drives.mem {s t : State} (h : s.Drives t) : Event.pinWrite t.boundPin t.pgPhase.level ∈ t.trace := by
  rw [State.Drives] at h
  rw [h]
  exact List.mem_append_right _ (List.mem_singleton_self _)

/-- What decides the level the generator holds on its pin is the same in both states. -/
structure State.SameOutput (s t : State) : Prop where
  pgReady : t.pgReady = s.pgReady
  boundPin : t.boundPin = s.boundPin
  pgPhase : t.pgPhase = s.pgPhase

theorem State.SameOutput.refl (s : State) : s.SameOutput s := ⟨rfl, rfl, rfl⟩

/-- A refresh that makes no transition is silent; a transition drives the bound pin to the new phase's level (R125, R126). -/
theorem State.refreshGenerator_drives (s : State) :
    (s.SameOutput s.refreshGenerator ∧ s.refreshGenerator.trace = s.trace) ∨ s.Drives s.refreshGenerator := by
  obtain ⟨-, he⟩ | ⟨-, -, he⟩ | ⟨-, -, he⟩ := s.refreshGenerator_cases <;> rw [he]
  · exact .inl ⟨.refl s, rfl⟩
  · exact .inr rfl
  · exact .inl ⟨⟨rfl, rfl, rfl⟩, rfl⟩

/-- A command of the generator or the mapper is silent and keeps the output, or it drives the bound pin; a gateway command
emits one event and keeps the output. -/
theorem effect_drives (i : Instr) (s : State) :
    (s.SameOutput (effect i s) ∧ (effect i s).trace = s.trace) ∨ s.Drives (effect i s) ∨
      (i.IsGateway ∧ s.SameOutput (effect i s) ∧ ∃ e, (effect i s).trace = s.trace ++ [e]) := by
  cases i with
  | gpioSetup p m => exact .inr (.inr ⟨.inl ⟨p, m, rfl⟩, ⟨rfl, rfl, rfl⟩, _, rfl⟩)
  | gpioRead p => exact .inr (.inr ⟨.inr (.inl ⟨p, rfl⟩), ⟨rfl, rfl, rfl⟩, _, rfl⟩)
  | gpioWrite p v => exact .inr (.inr ⟨.inr (.inr (.inl ⟨p, v, rfl⟩)), ⟨rfl, rfl, rfl⟩, _, rfl⟩)
  | gpioHigh p => exact .inr (.inr ⟨.inr (.inr (.inr (.inl ⟨p, rfl⟩))), ⟨rfl, rfl, rfl⟩, _, rfl⟩)
  | gpioLow p => exact .inr (.inr ⟨.inr (.inr (.inr (.inr ⟨p, rfl⟩))), ⟨rfl, rfl, rfl⟩, _, rfl⟩)
  | pgInit p a b => exact .inr (.inl rfl)
  | mdInit p f => exact .inr (.inl rfl)
  | pgRefresh => exact s.refreshGenerator_drives.imp_right .inl
  | mdRefresh =>
    simp only [effect]
    split
    · exact s.refreshGenerator_drives.imp_right .inl
    · exact .inl ⟨.refl s, rfl⟩
  | pgSetOn d | pgSetOff d | mdSetFreq f | mdSetDuty d =>
    simp only [effect]
    split <;> exact .inl ⟨⟨rfl, rfl, rfl⟩, rfl⟩
  | mdForward | mdBackward | mdStop => exact .inl ⟨.refl s, rfl⟩

/-- No effect removes an event, and none appends more than one (R34, R61). -/
theorem effect_trace (i : Instr) (s : State) : ∃ evs, (effect i s).trace = s.trace ++ evs ∧ evs.length ≤ 1 := by
  obtain ⟨-, h⟩ | h | ⟨-, -, e, h⟩ := effect_drives i s
  · exact ⟨[], by simp [h], by simp⟩
  · exact ⟨[_], h, le_rfl⟩
  · exact ⟨[e], h, le_rfl⟩

/-- Only GPIO.READ returns a value, the level it draws (R59, R104). -/
theorem effect_responses (i : Instr) (s : State) :
    (effect i s).responses = s.responses ∨
      ∃ p, i = .gpioRead p ∧ (effect i s).responses = s.responses ++ [s.pinLevel p] := by
  cases i with
  | gpioRead p => exact .inr ⟨p, rfl, rfl⟩
  | _ => left; simp [effect, apply_ite State.responses, State.startGenerator]

end Machine

end Sys2Proof
end

section
/-! SUPPORT. The step of a waiting block, the fault of a command whose cause's condition holds, and runs: what every step
keeps, every run keeps. -/

namespace Sys2Proof.Machine

theorem step_of_short {s : State} (h : s.halted = false) (hp : s.port.length < 3) : step s = .next s := by
  simp [step, h, (takeCommand_eq_none s.port).mpr hp]

/-- The counterpart of `exec_of_no_fault`: a running block takes the fault whose condition holds (R181). -/
theorem exec_of_fault {s : State} {i : Instr} {k : FaultCause} (h : s.halted = false) (hk : operandFault k i s) :
    exec i s = .next (s.takeFault k (encode i)) := by
  rw [exec_of_running h]
  cases k with
  | invalidPin =>
    obtain ⟨pin, hp, hv⟩ := hk
    cases i <;> cases hp <;> exact whenPinValid_of_invalid hv _ _
  | zeroFrequency =>
    obtain ⟨pin, rfl, hv⟩ | ⟨rfl, hm⟩ := hk
    · simp [whenPinValid_of_valid hv, raise]
    · simp [hm, raise]
  | invalidMode =>
    obtain ⟨pin, mode, rfl, hv, hm⟩ := hk
    simp [whenPinValid_of_valid hv, hm, raise]
  | invalidValue =>
    obtain ⟨pin, value, rfl, hv, hw⟩ := hk
    simp [whenPinValid_of_valid hv, hw, raise]
  | illegalCommand => exact hk.elim
  | reservedBits => exact hk.elim

theorem run_succ_of_refused {s : State} {r : Refusal} (h : step s = .refused r) (k : Nat) :
    Host.Core.run core (k + 1) s = .refused r := by
  have h' : core.step s = .refused r := h
  simp only [Host.Core.run, h']

/-- A run of one step more that ends in a next state begins with a step to a next state. -/
theorem run_succ_eq_next {k : Nat} {s t : State} (h : Host.Core.run core (k + 1) s = .next t) :
    ∃ u, step s = .next u ∧ Host.Core.run core k u = .next t := by
  cases hs : step s with
  | next u => exact ⟨u, rfl, run_succ_of_next hs k ▸ h⟩
  | fault r => rw [run_succ_of_fault hs] at h; cases h
  | refused r => rw [run_succ_of_refused hs] at h; cases h

/-- A predicate that every step keeps holds at every state a run reaches from a state that meets it. -/
theorem run_keeps {P : State → Prop} (hstep : ∀ s t, P s → step s = .next t → P t) (k : Nat) {s t : State} (hs : P s)
    (h : Host.Core.run core k s = .next t) : P t := by
  induction k generalizing s with
  | zero => cases h; exact hs
  | succ k ih =>
    obtain ⟨u, hu, hr⟩ := run_succ_eq_next h
    exact ih (hstep s u hs hu) hr

end Sys2Proof.Machine
end

section
/-! The invariant of the block: it holds after reset, every step keeps it, so it holds in every run from reset. -/

namespace Sys2Proof.Machine

/-- With both ready bits 0 and no fault the invariant asks nothing of the other fields. -/
theorem State.Inv.of_unready {s : State} (hpg : s.pgReady = false) (hmd : s.mdReady = false) (hf : s.faultCause = 0) :
    s.Inv where
  mapperNeedsGenerator := by simp [hmd]
  periodBounded := by simp [hmd]
  boundPinExists := by simp [hpg]
  causeLegal := by simp [hf]
  levelWritten := by simp [hpg]

theorem State.Inv.withPort {s : State} (h : s.Inv) (ws : List Word) : (s.withPort ws).Inv := { h with }

theorem State.Inv.takeFault {s : State} (h : s.Inv) (k : FaultCause) (c : Command) : (s.takeFault k c).Inv :=
  { h with causeLegal := k.code_bounds.2 }

/-- Every period the mapper can hold is at most 1000 ms (R38, R152). -/
theorem period_le (f : Word) : (period f).toNat ≤ 1000 := period_toNat f ▸ Nat.div_le_self _ _

/-- The effect of a command whose pin operand, if any, is valid keeps the invariant. -/
theorem State.Inv.effect {s : State} (h : s.Inv) (i : Instr)
    (hpin : ∀ pin, i.pinOperand = some pin → pinValid s.platform pin = true) : (effect i s).Inv where
  mapperNeedsGenerator hm := by
    obtain he | ⟨-, p, f, rfl⟩ := effect_mdReady i s
    · have hr : s.pgReady = true := h.mapperNeedsGenerator (he ▸ hm)
      exact (effect_pgReady i s).elim (·.trans hr) And.left
    · rfl
  periodBounded hm := by
    obtain hp | ⟨⟨f, hf⟩, -⟩ := effect_mdPeriod i s
    · obtain he | ⟨-, p, f, rfl⟩ := effect_mdReady i s
      · exact hp ▸ h.periodBounded (he ▸ hm)
      · exact period_le f
    · exact hf ▸ period_le f
  boundPinExists hr := by
    rw [effect_platform]
    obtain ⟨hg, hp, hi⟩ | ⟨-, hb⟩ := effect_binding i s
    · rw [State.boundPin, hp, hi]
      exact h.boundPinExists (hg ▸ hr)
    · exact hpin _ hb
  causeLegal := by rw [effect_faultCause]; exact h.causeLegal
  levelWritten hr := by
    obtain ⟨hs, ht⟩ | hd | ⟨-, hs, e, ht⟩ := effect_drives i s
    · rw [hs.boundPin, hs.pgPhase, ht]
      exact h.levelWritten (hs.pgReady ▸ hr)
    · exact hd.mem
    · rw [hs.boundPin, hs.pgPhase, ht]
      exact List.mem_append_left _ (h.levelWritten (hs.pgReady ▸ hr))

theorem State.Inv.exec {s t : State} {i : Instr} (h : s.Inv) (ht : exec i s = .next t) : t.Inv := by
  obtain ⟨-, ⟨k, -, rfl⟩ | ⟨hk, rfl⟩⟩ := exec_next_cases ht
  · exact h.takeFault k (encode i)
  · refine h.effect i fun pin hp => ?_
    by_contra hv
    exact hk .invalidPin ⟨pin, hp, Bool.eq_false_iff.mpr hv⟩

theorem State.Inv.step {s t : State} (h : s.Inv) (ht : step s = .next t) : t.Inv := by
  cases hh : s.halted with
  | true => rw [step_of_halted hh] at ht; cases ht
  | false =>
    obtain ⟨-, he⟩ | ⟨c, rest, e, -, -, he⟩ | ⟨c, rest, i, -, -, he⟩ := step_cases hh <;> rw [he] at ht
    · cases ht; exact h
    · cases ht; exact (h.withPort rest).takeFault _ c
    · exact (h.withPort rest).exec ht

/-- Settles O17, case by case of the step: waiting, a fault at decode, an operand fault, an effect. -/
theorem stepKeepsTheInvariant : Obligations.StepKeepsTheInvariant := fun _ _ h ht => h.step ht

/-- Settles O16: after reset both ready bits and FAULT_CAUSE are 0. -/
theorem resetMeetsTheInvariant : Obligations.ResetMeetsTheInvariant :=
  ⟨fun _ => .of_unready rfl rfl rfl, fun _ => .of_unready rfl rfl rfl⟩

/-- Settles O18: a run from reset starts in the invariant, and every step keeps it. -/
theorem mapperReadyImpliesGeneratorReadyAndPeriod : Obligations.MapperReadyImpliesGeneratorReadyAndPeriod := by
  intro p ws samples levels k t hrun hmd
  have hInv : t.Inv := run_keeps stepKeepsTheInvariant k (State.Inv.of_unready rfl rfl rfl) hrun
  exact ⟨hInv.mapperNeedsGenerator hmd, hInv.periodBounded hmd⟩

end Sys2Proof.Machine
end

section
/-! What a command changes and what it leaves unchanged, and when the block changes nothing at all. -/

namespace Sys2Proof.Machine

/-- Settles O10: `halted` is the test of FAULT_CAUSE, and both the step and every command ask it first. -/
theorem haltedBlockTakesNoStep : Obligations.HaltedBlockTakesNoStep :=
  ⟨fun _ => State.halted_eq_true, fun _ h => ⟨step_of_halted h, exec_of_halted h⟩⟩

/-- Settles O19: a fault writes the fault registers and halts; an effect writes what its registers' lemmas say. -/
theorem registersChangeOnlyByTheirWriters : Obligations.RegistersChangeOnlyByTheirWriters := by
  intro s t i ht
  obtain ⟨-, ⟨k, -, rfl⟩ | ⟨-, rfl⟩⟩ := exec_next_cases ht
  · simp
  · exact ⟨fun h => (effect_pgReady i s).resolve_left h,
      fun h => ((effect_binding i s).resolve_left fun e => h.elim (· e.2.1) (· e.2.2)).1,
      fun h => (effect_phase i s).resolve_left (not_and_or.mpr h),
      fun h => (effect_pgOnTime i s).resolve_left h,
      fun h => (effect_pgOffTime i s).resolve_left h,
      fun h => (effect_mdReady i s).resolve_left h,
      fun h => ((effect_mdPeriod i s).resolve_left h).2,
      by simp⟩

/-- Settles O21: a fault is silent, and an effect appends at most its event and its response. -/
theorem traceAndResponsesOnlyGrow : Obligations.TraceAndResponsesOnlyGrow := by
  intro s t i ht
  obtain ⟨-, ⟨k, -, rfl⟩ | ⟨-, rfl⟩⟩ := exec_next_cases ht
  · exact ⟨⟨[], by simp⟩, .inl rfl⟩
  · exact ⟨effect_trace i s, effect_responses i s⟩

/-- Settles O40: a fault is silent, and an effect keeps the output or drives the bound pin. -/
theorem phaseChangesDriveTheBoundPin : Obligations.PhaseChangesDriveTheBoundPin := by
  intro s t i ht
  obtain ⟨-, ⟨k, -, rfl⟩ | ⟨-, rfl⟩⟩ := exec_next_cases ht
  · exact ⟨.inl ⟨rfl, rfl⟩, .inl rfl⟩
  · obtain ⟨hs, htr⟩ | hd | ⟨hg, hs, -⟩ := effect_drives i s
    · exact ⟨.inl ⟨hs.boundPin, hs.pgPhase⟩, .inl htr⟩
    · exact ⟨.inr hd, .inr (.inl hd)⟩
    · exact ⟨.inl ⟨hs.boundPin, hs.pgPhase⟩, .inr (.inr hg)⟩

end Sys2Proof.Machine
end

section
/-! No run reads a register before a rule writes it (10_state.md R36): each primitive, hence each effect, each command, each
step and each run takes states that agree on what has been written to states that agree so again. -/

namespace Sys2Proof.Machine

/-! ## What agreeing states have in common -/

namespace State.AgreeOnWritten

variable {s t : State}

theorem halted_eq (h : s.AgreeOnWritten t) : t.halted = s.halted := by rw [State.halted, State.halted, h.faultCause]

theorem clockSample_eq (h : s.AgreeOnWritten t) : t.clockSample = s.clockSample := by
  rw [State.clockSample, State.clockSample, h.clockIn, h.clockDraws]

theorem pinLevel_eq (h : s.AgreeOnWritten t) (pin : Pin) : t.pinLevel pin = s.pinLevel pin := by
  rw [State.pinLevel, State.pinLevel, h.levelIn, h.levelDraws]

theorem due_eq (h : s.AgreeOnWritten t) (hr : s.pgReady = true) (now : Word) : t.due now = s.due now := by
  obtain ⟨-, -, hphase, hon, hoff, hlast⟩ := h.generator hr
  have hdur : t.activeDuration = s.activeDuration := by
    rw [State.activeDuration, State.activeDuration, hphase, hon, hoff]
  rw [State.due, State.due, State.elapsed, State.elapsed, hdur, hlast]

/-- Which fault a command takes depends on the platform and MD_READY only. -/
theorem operandFault_iff (h : s.AgreeOnWritten t) (k : FaultCause) (i : Instr) :
    operandFault k i t ↔ operandFault k i s := by
  cases k <;> simp only [operandFault, h.platform, h.mdReady]

/-! ## The primitives -/

theorem withPort (h : s.AgreeOnWritten t) (ws : List Word) : (s.withPort ws).AgreeOnWritten (t.withPort ws) :=
  { h with port := rfl }

theorem takeFault (h : s.AgreeOnWritten t) (k : FaultCause) (c : Command) :
    (s.takeFault k c).AgreeOnWritten (t.takeFault k c) :=
  { h with faultCause := rfl, faultCmd := fun _ => rfl }

theorem emit (h : s.AgreeOnWritten t) (e : Event) : (s.emit e).AgreeOnWritten (t.emit e) :=
  { h with trace := congrArg (· ++ [e]) h.trace }

theorem respond (h : s.AgreeOnWritten t) (l : Level) : (s.respond l).AgreeOnWritten (t.respond l) :=
  { h with responses := congrArg (· ++ [l]) h.responses }

theorem drawLevel (h : s.AgreeOnWritten t) : s.drawLevel.AgreeOnWritten t.drawLevel :=
  { h with levelIn := congrArg List.tail h.levelIn, levelDraws := congrArg (· + 1) h.levelDraws }

theorem drawClock (h : s.AgreeOnWritten t) : s.drawClock.AgreeOnWritten t.drawClock :=
  { h with clockIn := congrArg List.tail h.clockIn, clockDraws := congrArg (· + 1) h.clockDraws }

theorem setPeriod (h : s.AgreeOnWritten t) (p : Word) : (s.setPeriod p).AgreeOnWritten (t.setPeriod p) :=
  { h with mapper := fun _ => rfl }

theorem setDurations (h : s.AgreeOnWritten t) (on off : Word) :
    (s.setDurations on off).AgreeOnWritten (t.setDurations on off) :=
  { h with
    generator := fun hr =>
      have ⟨hport, hindex, hphase, _, _, hlast⟩ := h.generator hr
      ⟨hport, hindex, hphase, rfl, rfl, hlast⟩ }

/-- From MD_READY on MD_PERIOD is compared, so it has to be written first. -/
theorem markMdReady (h : s.AgreeOnWritten t) (hp : t.mdPeriod = s.mdPeriod) :
    s.markMdReady.AgreeOnWritten t.markMdReady :=
  { h with mdReady := rfl, mapper := fun _ => hp }

/-- A start writes all six registers of the generator, so it reads none of them. -/
theorem startGenerator (h : s.AgreeOnWritten t) (pin : Pin) (on off : Word) :
    (s.startGenerator pin on off).AgreeOnWritten (t.startGenerator pin on off) :=
  { h.drawClock.emit (.pinWrite pin Phase.off.level) with
    pgReady := rfl
    generator := fun _ => ⟨rfl, rfl, rfl, rfl, rfl, h.clockSample_eq⟩ }

theorem transition (h : s.AgreeOnWritten t) (hr : s.pgReady = true) (now : Word) :
    (s.transition now).AgreeOnWritten (t.transition now) := by
  obtain ⟨hport, hindex, hphase, hon, hoff, -⟩ := h.generator hr
  have hflip : (s.flipPhase now).AgreeOnWritten (t.flipPhase now) :=
    { h with generator := fun _ => ⟨hport, hindex, congrArg Phase.flip hphase, hon, hoff, rfl⟩ }
  have hpin : t.boundPin = s.boundPin := by rw [State.boundPin, State.boundPin, hport, hindex]
  rw [State.transition, State.transition, hpin, hphase]
  exact hflip.emit _

/-- Before init a refresh reads nothing but PG_READY; from then on what it reads has been written (R121). -/
theorem refreshGenerator (h : s.AgreeOnWritten t) : s.refreshGenerator.AgreeOnWritten t.refreshGenerator := by
  unfold State.refreshGenerator
  rw [h.pgReady, h.clockSample_eq]
  cases hr : s.pgReady with
  | false => simpa using h
  | true =>
    rw [h.due_eq hr]
    simp only [if_true]
    split
    · exact h.drawClock.transition hr _
    · exact h.drawClock

/-! ## Effects, commands, steps, runs -/

theorem effect (h : s.AgreeOnWritten t) (i : Instr) : (effect i s).AgreeOnWritten (effect i t) := by
  cases i with
  | gpioSetup pin mode => exact h.emit _
  | gpioRead pin =>
    simp only [Machine.effect, h.pinLevel_eq]
    exact (h.emit _).drawLevel.respond _
  | gpioWrite pin value => exact h.emit _
  | gpioHigh pin => exact h.emit _
  | gpioLow pin => exact h.emit _
  | pgInit pin on off => exact h.startGenerator pin on off
  | pgRefresh => exact h.refreshGenerator
  | pgSetOn d =>
    simp only [Machine.effect, h.pgReady]
    split
    next hr =>
      obtain ⟨-, -, -, -, hoff, -⟩ := h.generator hr
      exact hoff ▸ h.setDurations d t.pgOffTime
    next => exact h
  | pgSetOff d =>
    simp only [Machine.effect, h.pgReady]
    split
    next hr =>
      obtain ⟨-, -, -, hon, -, -⟩ := h.generator hr
      exact hon ▸ h.setDurations t.pgOnTime d
    next => exact h
  | mdInit pin f => exact ((h.setPeriod _).startGenerator pin 0 _).markMdReady rfl
  | mdRefresh =>
    simp only [Machine.effect, h.mdReady]
    split
    · exact h.refreshGenerator
    · exact h
  | mdSetFreq f =>
    simp only [Machine.effect, h.mdReady]
    split
    · exact h.setPeriod _
    · exact h
  | mdSetDuty d =>
    simp only [Machine.effect, h.mdReady]
    split
    next hm => rw [h.mapper hm]; exact h.setDurations _ _
    next => exact h
  | mdForward => exact h
  | mdBackward => exact h
  | mdStop => exact h

theorem exec (h : s.AgreeOnWritten t) (i : Instr) : Result.Agree (exec i s) (exec i t) := by
  cases hs : s.halted with
  | true => rw [exec_of_halted hs, exec_of_halted (h.halted_eq.trans hs)]; rfl
  | false =>
    have ht : t.halted = false := h.halted_eq.trans hs
    by_cases hf : ∃ k, operandFault k i s
    · obtain ⟨k, hk⟩ := hf
      rw [exec_of_fault hs hk, exec_of_fault ht ((h.operandFault_iff k i).mpr hk)]
      exact h.takeFault k _
    · have hk := not_exists.mp hf
      rw [exec_of_no_fault hs hk, exec_of_no_fault ht fun k => (h.operandFault_iff k i).not.mpr (hk k)]
      exact h.effect i

theorem step (h : s.AgreeOnWritten t) : Result.Agree (step s) (step t) := by
  cases hs : s.halted with
  | true => rw [step_of_halted hs, step_of_halted (h.halted_eq.trans hs)]; rfl
  | false =>
    have ht : t.halted = false := h.halted_eq.trans hs
    obtain ⟨hp, he⟩ | ⟨c, rest, e, hp, hd, he⟩ | ⟨c, rest, i, hp, hd, he⟩ := step_cases hs <;> rw [he]
    · rw [step_of_short ht (h.port ▸ hp)]
      exact h
    · rw [step_of_decode_error ht (h.port.trans hp) hd]
      exact (h.withPort rest).takeFault _ c
    · rw [step_of_decode_ok ht (h.port.trans hp) hd]
      exact (h.withPort rest).exec i

theorem run (k : Nat) (h : s.AgreeOnWritten t) :
    Result.Agree (Host.Core.run core k s) (Host.Core.run core k t) := by
  induction k generalizing s t with
  | zero => exact h
  | succ k ih =>
    have hstep := h.step
    cases hs : Machine.step s <;> cases ht : Machine.step t <;> rw [hs, ht] at hstep
    case next.next s' t' =>
      rw [run_succ_of_next hs, run_succ_of_next ht]
      exact ih hstep
    case fault.fault f g =>
      rw [run_succ_of_fault hs, run_succ_of_fault ht]
      exact hstep
    case refused.refused r q =>
      rw [run_succ_of_refused hs, run_succ_of_refused ht]
      exact hstep
    all_goals exact hstep.elim

end State.AgreeOnWritten

/-- Settles O22, by induction on the number of steps. -/
theorem unwrittenRegistersAreNeverRead : Obligations.UnwrittenRegistersAreNeverRead := fun k _ _ h => h.run k

end Sys2Proof.Machine
end

section
/-! SUPPORT. The byte transport carries the words of its commands (20_memory.md R52), and the decoder reads an instruction's
command back: the command carries the row's opcode, it matches the row under the row's mask, and its fields are the
operands (30_encoding.md R73 to R76). -/

namespace Sys2Proof

/-! ## The byte transport -/

/-- The words a command is made of are the fields the transport sends. -/
theorem Command.bytes_ofWords (w0 w1 w2 : Word) :
    (Command.ofWords w0 w1 w2).bytes = wordBytes w0 ++ wordBytes w1 ++ wordBytes w2 := by
  have hw : [(Command.ofWords w0 w1 w2).w0, (Command.ofWords w0 w1 w2).opA, (Command.ofWords w0 w1 w2).opB] =
      [w0, w1, w2] := Command.words_ofWords w0 w1 w2
  simp only [List.cons.injEq, and_true] at hw
  obtain ⟨h0, hA, hB⟩ := hw
  rw [Command.bytes, h0, hA, hB]

theorem wordsOfBytes_bytes (c : Command) (rest : List Byte) :
    wordsOfBytes (c.bytes ++ rest) = c.words ++ wordsOfBytes rest := by
  simp only [Command.bytes, List.append_assoc, wordsOfBytes_wordBytes]
  rfl

theorem wordsOfBytes_flatMap_bytes (cs : List Command) :
    wordsOfBytes (cs.flatMap Command.bytes) = cs.flatMap Command.words := by
  induction cs with
  | nil => rfl
  | cons c cs ih => rw [List.flatMap_cons, List.flatMap_cons, wordsOfBytes_bytes, ih]

/-! ## Decoding an encoded instruction -/

/-- The row of the opcode map that an instruction belongs to (R75). -/
def Instr.opcode : Instr → Opcode
  | .gpioSetup _ _ => .gpioSetup
  | .gpioRead _ => .gpioRead
  | .gpioWrite _ _ => .gpioWrite
  | .gpioHigh _ => .gpioHigh
  | .gpioLow _ => .gpioLow
  | .pgInit _ _ _ => .pgInit
  | .pgRefresh => .pgRefresh
  | .pgSetOn _ => .pgSetOn
  | .pgSetOff _ => .pgSetOff
  | .mdInit _ _ => .mdInit
  | .mdRefresh => .mdRefresh
  | .mdSetFreq _ => .mdSetFreq
  | .mdSetDuty _ => .mdSetDuty
  | .mdForward => .mdForward
  | .mdBackward => .mdBackward
  | .mdStop => .mdStop

theorem encode_opc (i : Instr) : (encode i).opc = i.opcode.code := by
  cases i <;> exact Command.opc_pack ..

/-- An encoded instruction has its row's opcode and zeros in the reserved fields of its row's format (R73). -/
theorem encode_and_mask (i : Instr) : encode i &&& i.opcode.format.mask = i.opcode.matchBits := by
  rw [Format.mask_eq_pack]
  cases i <;>
    simp [encode, Instr.opcode, Opcode.format, Opcode.matchBits, Opcode.code, Command.pack_and]

/-- The fields of an encoded instruction are its operands (R74). -/
theorem assemble_encode (i : Instr) : i.opcode.assemble (encode i) = i := by
  cases i <;> simp [encode, Instr.opcode, Opcode.assemble, Command.pin]

theorem decode_encode (i : Instr) : decode (encode i) = .ok i := by
  rw [decode, encode_opc, opcodeOf_code]
  simp only [encode_and_mask, assemble_encode, if_true]

end Sys2Proof
end

section
/-! SUPPORT. In a running block every command answers a next state; which inputs the effect of a command draws; and the effect
of a command executed again (20_memory.md R56, R58, R67). -/

namespace Sys2Proof.Machine

/-! ## Totality -/

theorem exec_total {s : State} (h : s.halted = false) (i : Instr) : ∃ t, exec i s = .next t := by
  by_cases hf : ∃ k, operandFault k i s
  · obtain ⟨k, hk⟩ := hf
    exact ⟨_, exec_of_fault h hk⟩
  · exact ⟨_, exec_of_no_fault h (not_exists.mp hf)⟩

theorem step_total {s : State} (h : s.halted = false) : ∃ t, step s = .next t := by
  obtain ⟨-, he⟩ | ⟨c, rest, e, -, -, he⟩ | ⟨c, rest, i, -, -, he⟩ := step_cases h
  · exact ⟨s, he⟩
  · exact ⟨_, he⟩
  · exact he ▸ exec_total (s := s.withPort rest) h i

theorem run_one (s : State) : Host.Core.run core 1 s = step s := by
  cases hs : step s with
  | next t => exact run_succ_of_next hs 0
  | fault r => exact run_succ_of_fault hs 0
  | refused r => exact run_succ_of_refused hs 0

/-- A command takes nothing off the port, whether it faults or not. -/
theorem exec_port {s t : State} {i : Instr} (h : exec i s = .next t) : t.port = s.port := by
  obtain ⟨-, ⟨k, -, rfl⟩ | ⟨-, rfl⟩⟩ := exec_next_cases h
  · rfl
  · exact effect_port i s

/-! ## Draws -/

theorem State.refreshGenerator_clock (s : State) :
    (s.refreshGenerator.clockIn = s.clockIn ∧ s.refreshGenerator.clockDraws = s.clockDraws) ∨
      (s.refreshGenerator.clockIn = s.clockIn.tail ∧ s.refreshGenerator.clockDraws = s.clockDraws + 1) := by
  obtain ⟨-, he⟩ | ⟨-, -, he⟩ | ⟨-, -, he⟩ := s.refreshGenerator_cases <;> rw [he]
  · exact .inl ⟨rfl, rfl⟩
  · exact .inr ⟨rfl, rfl⟩
  · exact .inr ⟨rfl, rfl⟩

theorem effect_mdRefresh_of_ready {s : State} (h : s.mdReady = true) : effect .mdRefresh s = s.refreshGenerator :=
  if_pos h

theorem effect_mdRefresh_of_not_ready {s : State} (h : s.mdReady = false) : effect .mdRefresh s = s := by
  simp [effect, h]

/-- Only an init or a refresh draws a clock sample, and it draws at most one (R56). -/
theorem effect_clock (i : Instr) (s : State) :
    ((effect i s).clockIn = s.clockIn ∧ (effect i s).clockDraws = s.clockDraws) ∨
      ((effect i s).clockIn = s.clockIn.tail ∧ (effect i s).clockDraws = s.clockDraws + 1 ∧
        ((∃ p a b, i = .pgInit p a b) ∨ (∃ p f, i = .mdInit p f) ∨ i = .pgRefresh ∨ i = .mdRefresh)) := by
  cases i with
  | pgInit p a b => exact .inr ⟨rfl, rfl, .inl ⟨p, a, b, rfl⟩⟩
  | mdInit p f => exact .inr ⟨rfl, rfl, .inr (.inl ⟨p, f, rfl⟩)⟩
  | pgRefresh => exact s.refreshGenerator_clock.imp_right fun ⟨hin, hn⟩ => ⟨hin, hn, .inr (.inr (.inl rfl))⟩
  | mdRefresh =>
    cases hm : s.mdReady with
    | false =>
      rw [effect_mdRefresh_of_not_ready hm]
      exact .inl ⟨rfl, rfl⟩
    | true =>
      rw [effect_mdRefresh_of_ready hm]
      exact s.refreshGenerator_clock.imp_right fun ⟨hin, hn⟩ => ⟨hin, hn, .inr (.inr (.inr rfl))⟩
  | _ => left; simp [effect, apply_ite State.clockIn, apply_ite State.clockDraws]

/-- Only GPIO.READ draws a level, one (R58). -/
theorem effect_level (i : Instr) (s : State) :
    ((effect i s).levelIn = s.levelIn ∧ (effect i s).levelDraws = s.levelDraws) ∨
      ((effect i s).levelIn = s.levelIn.tail ∧ (effect i s).levelDraws = s.levelDraws + 1 ∧ ∃ p, i = .gpioRead p) := by
  cases i with
  | gpioRead p => exact .inr ⟨rfl, rfl, p, rfl⟩
  | _ => left; simp [effect, apply_ite State.levelIn, apply_ite State.levelDraws, State.startGenerator]

/-! ## Repetition -/

theorem State.SameRegisters.refl (s : State) : s.SameRegisters s :=
  ⟨rfl, rfl, rfl, rfl, rfl, rfl, rfl, rfl, rfl, rfl, rfl⟩

/-- Which fault a command takes does not change by its own effect: it writes neither the platform nor, unless it is MD.INIT,
MD_READY. -/
theorem operandFault_effect_iff (k : FaultCause) (i : Instr) (s : State) :
    operandFault k i (effect i s) ↔ operandFault k i s := by
  obtain hm | ⟨-, p, f, rfl⟩ := effect_mdReady i s
  · cases k <;> simp only [operandFault, effect_platform, hm]
  · cases k <;> simp [operandFault]

@[simp] theorem State.setDurations_setDurations (s : State) (on off on' off' : Word) :
    (s.setDurations on off).setDurations on' off' = s.setDurations on' off' := rfl

@[simp] theorem State.setPeriod_setPeriod (s : State) (p p' : Word) : (s.setPeriod p).setPeriod p' = s.setPeriod p' := rfl

/-- A refresh that made no transition makes none when it is repeated with its sample (R67). -/
theorem State.refreshGenerator_again {s : State} (hclock : s.refreshGenerator.clockSample = s.clockSample)
    (hphase : s.refreshGenerator.pgPhase = s.pgPhase) :
    s.refreshGenerator.SameRegisters s.refreshGenerator.refreshGenerator := by
  obtain ⟨-, he⟩ | ⟨-, -, he⟩ | ⟨hr, hd, he⟩ := s.refreshGenerator_cases <;> rw [he] at hclock hphase ⊢
  · rw [he]
    exact .refl s
  · exact absurd hphase s.pgPhase.flip_ne
  · have hd' : s.drawClock.due s.drawClock.clockSample = false := hclock.symm ▸ hd
    rw [State.refreshGenerator_of_not_due (s := s.drawClock) hr hd']
    exact { State.SameRegisters.refl s.drawClock with }

/-- An effect repeated with its sample leaves the registers, for a refresh where it made no transition (R67). -/
theorem effect_again {i : Instr} {s : State} (hclock : (effect i s).clockSample = s.clockSample)
    (hphase : i = .pgRefresh ∨ i = .mdRefresh → (effect i s).pgPhase = s.pgPhase) :
    (effect i s).SameRegisters (effect i (effect i s)) := by
  cases i with
  | gpioSetup _ _ | gpioRead _ | gpioWrite _ _ | gpioHigh _ | gpioLow _ =>
    exact { State.SameRegisters.refl (effect _ s) with }
  | pgInit _ _ _ | mdInit _ _ => exact { State.SameRegisters.refl (effect _ s) with pgLastT := hclock }
  | pgRefresh => exact State.refreshGenerator_again hclock (hphase (.inl rfl))
  | mdRefresh =>
    cases hm : s.mdReady with
    | false =>
      rw [effect_mdRefresh_of_not_ready hm, effect_mdRefresh_of_not_ready hm]
      exact .refl s
    | true =>
      rw [effect_mdRefresh_of_ready hm] at hclock hphase ⊢
      rw [effect_mdRefresh_of_ready (s.refreshGenerator_mdReady.trans hm)]
      exact State.refreshGenerator_again hclock (hphase (.inr rfl))
  | pgSetOn _ | pgSetOff _ => cases hr : s.pgReady <;> simp [effect, hr, State.SameRegisters.refl]
  | mdSetFreq _ | mdSetDuty _ => cases hm : s.mdReady <;> simp [effect, hm, State.SameRegisters.refl]
  | mdForward | mdBackward | mdStop => exact .refl s

end Sys2Proof.Machine
end

section
/-! Sending and running commands: the byte transport, the step, the order of commands, the inputs a command draws and a command
repeated (20_memory.md). -/

namespace Sys2Proof.Machine

/-- Settles O5, by induction on the commands sent. -/
theorem bytesCarryCommandWords : Obligations.BytesCarryCommandWords :=
  ⟨fun w0 w1 w2 => Command.bytes_ofWords w0 w1 w2, wordsOfBytes_flatMap_bytes⟩

/-- Settles O9: the three words on the port are the words of the command they make up. -/
theorem stepRunsDecodedCommand : Obligations.StepRunsDecodedCommand := by
  have hwords (s : State) (w0 w1 w2 : Word) (rest : List Word) (hp : s.port = w0 :: w1 :: w2 :: rest) :
      s.port = (Command.ofWords w0 w1 w2).words ++ rest := by rw [Command.words_ofWords]; exact hp
  refine ⟨fun s h hp => step_of_short h hp, ?_, ?_, ?_⟩
  · intro s w0 w1 w2 rest i h hp hd
    exact step_of_decode_ok h (hwords s w0 w1 w2 rest hp) hd
  · intro s w0 w1 w2 rest e h hp hd
    exact ⟨_, step_of_decode_error h (hwords s w0 w1 w2 rest hp) hd, rfl, rfl⟩
  · intro s ws vs
    simp only [State.receive, List.append_assoc]

/-- Settles O11: the first step executes the first command, which leaves the second one on the port. -/
theorem commandsRunInArrivalOrder : Obligations.CommandsRunInArrivalOrder := by
  intro s t i j rest hs hp hi ht
  have hfirst : step s = .next t := by
    rw [step_of_decode_ok hs (hp.trans (List.append_assoc ..)) (decode_encode i)]
    exact hi
  have hport : t.port = (encode j).words ++ rest := exec_port hi
  refine ⟨hport, ?_⟩
  have hsecond : step t = exec j (t.withPort rest) := step_of_decode_ok ht hport (decode_encode j)
  exact (run_succ_of_next hfirst 1).trans ((run_one t).trans hsecond)

/-- Settles O14: a command faults or has its effect, and a step waits, faults at decode or executes a command. -/
theorem runningBlockAlwaysSteps : Obligations.RunningBlockAlwaysSteps :=
  ⟨fun i _ h => exec_total h i, fun _ h => step_total h⟩

/-- Settles O20: a fault draws nothing, and an effect draws what `effect_clock` and `effect_level` say. -/
theorem inputsAreDrawnAtMostOnce : Obligations.InputsAreDrawnAtMostOnce := by
  intro s t i ht
  obtain ⟨-, ⟨k, -, rfl⟩ | ⟨-, rfl⟩⟩ := exec_next_cases ht
  · exact ⟨rfl, rfl, .inl ⟨rfl, rfl⟩, .inl ⟨rfl, rfl⟩⟩
  · exact ⟨effect_port i s, effect_platform i s, effect_clock i s, effect_level i s⟩

/-- Settles O23: no fault the first time, so none the second time, and the effect repeated leaves the registers.
That the first made no transition is enough for a refresh; its active duration is not asked. -/
theorem repeatedCommandLeavesRegisters : Obligations.RepeatedCommandLeavesRegisters := by
  intro s t u i ht hrun hclock hrefresh hu
  obtain ⟨-, ⟨k, -, rfl⟩ | ⟨hk, rfl⟩⟩ := exec_next_cases ht
  · simp at hrun
  · obtain ⟨-, ⟨k, hk', -⟩ | ⟨-, rfl⟩⟩ := exec_next_cases hu
    · exact absurd ((operandFault_effect_iff k i s).mp hk') (hk k)
    · exact effect_again hclock fun h => (hrefresh h).2

end Sys2Proof.Machine
end

section
/-! SUPPORT. Which commands decode: the masks of R73 and its columns of reserved fields ask the same fields to be zero,
and the decoder's three answers are told apart by the opcode and by those fields (30_encoding.md R73 to R77). -/

namespace Sys2Proof

/-! ## Reserved fields -/

/-- The fields a format does not use are zero, format by format (R73): what its mask and its columns both say. -/
def Format.ReservedZero (c : Command) : Format → Prop
  | .n => c.port = 0 ∧ c.index = 0 ∧ c.aux = 0 ∧ c.opA = 0 ∧ c.opB = 0
  | .a => c.port = 0 ∧ c.index = 0 ∧ c.aux = 0 ∧ c.opB = 0
  | .p => c.aux = 0 ∧ c.opA = 0 ∧ c.opB = 0
  | .pm => c.opA = 0 ∧ c.opB = 0
  | .pa => c.aux = 0 ∧ c.opB = 0
  | .pab => c.aux = 0

/-- A row's mask test asks for zero in the fields its format does not use. -/
theorem Opcode.and_mask_eq_matchBits_iff {op : Opcode} {c : Command} (h : op.code = c.opc) :
    c &&& op.format.mask = op.matchBits ↔ op.format.ReservedZero c := by
  have hbyte (x : Byte) : x &&& 0xFF#8 = x := BitVec.and_allOnes
  have hword (x : Word) : x &&& 0xFFFFFFFF#32 = x := BitVec.and_allOnes
  conv_lhs => rw [← Command.pack_fields c, Format.mask_eq_pack, Opcode.matchBits, h]
  cases op.format <;>
    simp [Format.ReservedZero, Command.pack_and, Command.pack_inj, hbyte, hword]

/-- The columns of R73 ask for zero in the fields the format of the command's row does not use. -/
theorem Opcode.wellFormed_iff {op : Opcode} {c : Command} (h : op.code = c.opc) :
    c.wellFormed = true ↔ op.format.ReservedZero c := by
  rw [← Command.pack_fields c, Command.wellFormed_pack, ← h]
  cases op <;> simp [Opcode.code, Opcode.format, Format.ReservedZero, and_assoc]

/-- A row's instruction keeps every field its format uses, so it encodes to the command that had zero in the others. -/
theorem Opcode.encode_assemble {op : Opcode} {c : Command} (h : op.code = c.opc) (hz : op.format.ReservedZero c) :
    encode (op.assemble c) = c := by
  conv_rhs => rw [← Command.pack_fields c, ← h]
  cases op <;> simp only [Opcode.format, Format.ReservedZero] at hz <;>
    simp [Opcode.assemble, Opcode.code, encode, Command.pin, hz]

/-! ## Assigned opcodes -/

theorem opcodeOf_eq_some_iff {b : Byte} {op : Opcode} : opcodeOf b = some op ↔ op.code = b :=
  ⟨code_of_opcodeOf, fun h => h ▸ opcodeOf_code op⟩

/-- The opcodes that check 1 lists are those of the map's rows, in the map's order (R75). -/
theorem Command.opcodeAssigned_iff (c : Command) : c.opcodeAssigned = true ↔ ∃ op : Opcode, op.code = c.opc := by
  have hlist : c.opcodeAssigned = (Opcode.all.map fun op => op.code.toNat).contains c.opc.toNat := rfl
  rw [hlist, List.contains_iff_mem, List.mem_map]
  constructor
  · rintro ⟨op, -, h⟩
    exact ⟨op, BitVec.eq_of_toNat_eq h⟩
  · rintro ⟨op, h⟩
    exact ⟨op, List.mem_of_find?_eq_some (opcodeOf_code op), congrArg BitVec.toNat h⟩

theorem Command.opcodeAssigned_of_wellFormed {c : Command} (h : c.wellFormed = true) : c.opcodeAssigned = true := by
  simp only [Command.wellFormed, Bool.and_eq_true, and_assoc] at h
  exact h.1

/-- The ranges of R77 hold no assigned opcode. -/
theorem Command.opcodeAssigned_eq_false_of_range {c : Command}
    (h : c.opcodeNat ≤ 0x0F ∨ 0x15 ≤ c.opcodeNat ∧ c.opcodeNat ≤ 0x1F ∨ 0x24 ≤ c.opcodeNat ∧ c.opcodeNat ≤ 0x2F ∨
      0x37 ≤ c.opcodeNat) : c.opcodeAssigned = false := by
  simp only [Command.opcodeAssigned, List.contains_eq_mem, List.mem_cons, List.not_mem_nil, or_false,
    decide_eq_false_iff_not]
  omega

/-! ## The decoder's answers -/

/-- Check 1 of R76. -/
theorem decode_of_unassigned {c : Command} (h : c.opcodeAssigned = false) : decode c = .error .illegalCommand := by
  have hnone : opcodeOf c.opc = none := by
    rw [Option.eq_none_iff_forall_ne_some]
    intro op hop
    exact Bool.eq_false_iff.mp h (c.opcodeAssigned_iff.mpr ⟨op, code_of_opcodeOf hop⟩)
  simp only [decode, hnone]

/-- Check 2 of R76, once the opcode has named the row. -/
theorem decode_of_code {op : Opcode} {c : Command} (h : op.code = c.opc) :
    decode c = if c &&& op.format.mask = op.matchBits then .ok (op.assemble c) else .error .reservedBits := by
  simp only [decode, opcodeOf_eq_some_iff.mpr h]

theorem decode_of_wellFormed {op : Opcode} {c : Command} (h : op.code = c.opc) (hw : c.wellFormed = true) :
    decode c = .ok (op.assemble c) := by
  rw [decode_of_code h, if_pos ((Opcode.and_mask_eq_matchBits_iff h).mpr ((Opcode.wellFormed_iff h).mp hw))]

theorem decode_of_reserved {c : Command} (h : c.opcodeAssigned = true) (hw : c.wellFormed = false) :
    decode c = .error .reservedBits := by
  obtain ⟨op, hop⟩ := c.opcodeAssigned_iff.mp h
  have hz : ¬ op.format.ReservedZero c := by
    rw [← Opcode.wellFormed_iff hop, hw]
    exact Bool.false_ne_true
  rw [decode_of_code hop, if_neg (mt (Opcode.and_mask_eq_matchBits_iff hop).mp hz)]

/-- What decodes has an assigned opcode and zero in its format's reserved fields, and its instruction is its row's. -/
theorem decode_eq_ok {c : Command} {i : Instr} (h : decode c = .ok i) :
    ∃ op : Opcode, op.code = c.opc ∧ op.format.ReservedZero c ∧ op.assemble c = i := by
  cases ha : c.opcodeAssigned with
  | false => rw [decode_of_unassigned ha] at h; cases h
  | true =>
    cases hw : c.wellFormed with
    | false => rw [decode_of_reserved ha hw] at h; cases h
    | true =>
      obtain ⟨op, hop⟩ := c.opcodeAssigned_iff.mp ha
      rw [decode_of_wellFormed hop hw] at h
      cases h
      exact ⟨op, hop, (Opcode.wellFormed_iff hop).mp hw, rfl⟩

/-- The encoder leaves every reserved field zero (R79). -/
theorem wellFormed_encode (i : Instr) : (encode i).wellFormed = true := by
  have hcode : i.opcode.code = (encode i).opc := (encode_opc i).symm
  exact (Opcode.wellFormed_iff hcode).mpr ((Opcode.and_mask_eq_matchBits_iff hcode).mp (encode_and_mask i))

end Sys2Proof
end

section
/-! The encoding: the decoder and the encoder are inverse to each other, what the decoder accepts, the faults of the rest,
and the assembler (30_encoding.md). -/

namespace Sys2Proof

/-- Settles O1: the row of the instruction is found by its opcode, passes its mask and reads the operands back. -/
theorem decodeEncodeRoundTrip : Obligations.DecodeEncodeRoundTrip := decode_encode

/-- Settles O2: the fields that the instruction does not keep are the reserved ones, which are zero. -/
theorem decodedCommandReencodes : Obligations.DecodedCommandReencodes := by
  intro c i h
  obtain ⟨op, hop, hz, rfl⟩ := decode_eq_ok h
  exact Opcode.encode_assemble hop hz

/-- Settles O3: in the row of the command's opcode, the mask and the columns ask the same fields to be zero. -/
theorem decodeAcceptsExactlyWellFormed : Obligations.DecodeAcceptsExactlyWellFormed := by
  intro c
  constructor
  · rintro ⟨i, h⟩
    obtain ⟨op, hop, hz, -⟩ := decode_eq_ok h
    exact (Opcode.wellFormed_iff hop).mpr hz
  · intro hw
    obtain ⟨op, hop⟩ := c.opcodeAssigned_iff.mp (Command.opcodeAssigned_of_wellFormed hw)
    exact ⟨_, decode_of_wellFormed hop hw⟩

/-- Settles O4: a command that does not decode is taken off the port and faults with the cause of the check it fails. -/
theorem malformedCommandFaults : Obligations.MalformedCommandFaults := by
  intro s c rest hs hp
  constructor
  · intro hrange
    have hd := decode_of_unassigned (Command.opcodeAssigned_eq_false_of_range hrange)
    exact Machine.step_of_decode_error hs hp hd
  · intro ha hw
    exact Machine.step_of_decode_error hs hp (decode_of_reserved ha hw)

/-- Settles O7: what a line assembles to is the encoding of the instruction the line writes. -/
theorem assembledCommandDecodes : Obligations.AssembledCommandDecodes := by
  intro line c h
  obtain ⟨i, -, rfl⟩ := Option.map_eq_some_iff.mp h
  exact ⟨wellFormed_encode i, i, decode_encode i⟩

/-- Settles O6, by evaluating the assembler and the decoder on the rows of the table. -/
theorem encodingExamplesHold : Obligations.EncodingExamplesHold := by
  unfold Obligations.EncodingExamplesHold
  decide

end Sys2Proof
end

section
/-! SUPPORT. The commands of the GPIO gateway (40_gpio.md): the two tests of R103 and R105, what each command does on operands
that pass its tests, and on which inputs what it does depends. -/

namespace Sys2Proof.Machine

/-! ## Tests -/

theorem modeValid_iff {p : Platform} {mode : Byte} :
    modeValid p mode = true ↔ mode.toNat ≤ 2 ∨ mode ∈ p.furtherModes := by
  simp [modeValid]

theorem writeValueValid_iff {p : Platform} {pin : Pin} {value : Word} :
    writeValueValid p pin value = true ↔ value.toNat ≤ 1 ∨ analogWriteCapable p pin = true := by
  simp [writeValueValid]

theorem writeValueValid_eq_false {p : Platform} {pin : Pin} {value : Word} (hv : 2 ≤ value.toNat)
    (ha : analogWriteCapable p pin = false) : writeValueValid p pin value = false := by
  have hle : ¬ value.toNat ≤ 1 := by omega
  simp [writeValueValid, hle, ha]

/-! ## Executing on valid operands -/

/-- A command that leaves the block running took no fault, so what it left is its effect. -/
theorem eq_effect_of_exec_next {s t : State} {i : Instr} (h : exec i s = .next t) (ht : t.halted = false) :
    t = effect i s := by
  obtain ⟨-, ⟨k, -, rfl⟩ | ⟨-, he⟩⟩ := exec_next_cases h
  · simp at ht
  · exact he

section
variable {pin : Pin} {s : State} (hs : s.halted = false) (hpin : pinValid s.platform pin = true)
include hs hpin

theorem exec_gpioSetup_of_valid {mode : Byte} (hm : modeValid s.platform mode = true) :
    exec (.gpioSetup pin mode) s = .next (s.emit (.pinSetup pin mode)) := by
  simp only [exec_of_running hs, whenPinValid_of_valid hpin, if_pos hm]

theorem exec_gpioRead_of_valid :
    exec (.gpioRead pin) s = .next (((s.emit (.pinRead pin)).drawLevel).respond (s.pinLevel pin)) := by
  simp only [exec_of_running hs, whenPinValid_of_valid hpin]

theorem exec_gpioWrite_of_valid {value : Word} (hw : value.toNat ≤ 1 ∨ analogWriteCapable s.platform pin = true) :
    exec (.gpioWrite pin value) s = .next (s.emit (.pinWrite pin value)) := by
  simp only [exec_of_running hs, whenPinValid_of_valid hpin, if_pos (writeValueValid_iff.mpr hw)]

theorem exec_gpioHigh_of_valid : exec (.gpioHigh pin) s = .next (s.emit (.pinWrite pin 1)) := by
  simp only [exec_of_running hs, whenPinValid_of_valid hpin]

theorem exec_gpioLow_of_valid : exec (.gpioLow pin) s = .next (s.emit (.pinWrite pin 0)) := by
  simp only [exec_of_running hs, whenPinValid_of_valid hpin]

end

/-! ## What a gateway command depends on (R102) -/

/-- The level drawn depends on nothing but the draws and the pin (R58). -/
theorem State.pinLevel_congr {s s' : State} (hin : s'.levelIn = s.levelIn) (hdraws : s'.levelDraws = s.levelDraws)
    (pin : Pin) : s'.pinLevel pin = s.pinLevel pin := by
  rw [State.pinLevel, State.pinLevel, hin, hdraws]

/-- A gateway command writes no register. -/
theorem sameRegisters_effect_of_isGateway {i : Instr} (hg : i.IsGateway) (s : State) :
    s.SameRegisters (effect i s) := by
  obtain ⟨p, m, rfl⟩ | ⟨p, rfl⟩ | ⟨p, v, rfl⟩ | ⟨p, rfl⟩ | ⟨p, rfl⟩ := hg <;>
    exact { State.SameRegisters.refl s with }

/-- Which fault a gateway command takes depends on the platform only: the one cause that asks for a register, ZERO_FREQUENCY,
is never a gateway command's. -/
theorem operandFault_congr_of_isGateway {i : Instr} (hg : i.IsGateway) {s s' : State} (hp : s'.platform = s.platform)
    (k : FaultCause) : operandFault k i s' ↔ operandFault k i s := by
  cases k with
  | zeroFrequency =>
    obtain ⟨p, m, rfl⟩ | ⟨p, rfl⟩ | ⟨p, v, rfl⟩ | ⟨p, rfl⟩ | ⟨p, rfl⟩ := hg <;> simp [operandFault]
  | _ => simp only [operandFault, hp]

/-- With the same levels to come a gateway command emits the same events and returns the same values. -/
theorem effect_output_of_isGateway {i : Instr} (hg : i.IsGateway) {s s' : State} (hin : s'.levelIn = s.levelIn)
    (hdraws : s'.levelDraws = s.levelDraws) :
    ∃ evs vs, (effect i s).trace = s.trace ++ evs ∧ (effect i s').trace = s'.trace ++ evs ∧
      (effect i s).responses = s.responses ++ vs ∧ (effect i s').responses = s'.responses ++ vs := by
  obtain ⟨p, m, rfl⟩ | ⟨p, rfl⟩ | ⟨p, v, rfl⟩ | ⟨p, rfl⟩ | ⟨p, rfl⟩ := hg
  case inr.inl =>
    have hlevel : s'.pinLevel p = s.pinLevel p := State.pinLevel_congr hin hdraws p
    exact ⟨[.pinRead p], [s.pinLevel p], rfl, rfl, rfl, by simp [effect, hlevel]⟩
  all_goals exact ⟨[_], [], rfl, rfl, by simp [effect], by simp [effect]⟩

/-! ## A refresh after an event -/

/-- A refresh reads no event: after one it leaves the registers and appends the events it would have without it. -/
theorem State.refreshGenerator_emit (s : State) (e : Event) :
    s.refreshGenerator.SameRegisters (s.emit e).refreshGenerator ∧
      ∃ evs, s.refreshGenerator.trace = s.trace ++ evs ∧
        (s.emit e).refreshGenerator.trace = (s.emit e).trace ++ evs := by
  obtain ⟨hr, he⟩ | ⟨hr, hd, he⟩ | ⟨hr, hd, he⟩ := s.refreshGenerator_cases <;> rw [he]
  · rw [State.refreshGenerator_of_not_ready (s := s.emit e) hr]
    exact ⟨{ State.SameRegisters.refl s with }, [], by simp, by simp⟩
  · rw [State.refreshGenerator_of_due (s := s.emit e) hr hd]
    exact ⟨{ State.SameRegisters.refl (s.drawClock.transition s.clockSample) with }, [_], rfl, rfl⟩
  · rw [State.refreshGenerator_of_not_due (s := s.emit e) hr hd]
    exact ⟨{ State.SameRegisters.refl s.drawClock with }, [], by simp, by simp⟩

end Sys2Proof.Machine
end

section
/-! The GPIO gateway: what its five commands do, that they depend on no register and change none, and that the generator does
not notice a host's write to its pin (40_gpio.md). -/

namespace Sys2Proof.Machine

/-- Settles O29: both blocks take the same fault, or both have the effect, whose output reads no register. -/
theorem gatewayIsStateless : Obligations.GatewayIsStateless := by
  intro s s' t i hg hs hs' hp hin hdraws ht
  have hfault (k : FaultCause) : operandFault k i s' ↔ operandFault k i s := operandFault_congr_of_isGateway hg hp k
  obtain ⟨-, ⟨k, hk, rfl⟩ | ⟨hk, rfl⟩⟩ := exec_next_cases ht
  · have ht' := exec_of_fault hs' ((hfault k).mpr hk)
    exact ⟨by simp, _, [], [], ht', rfl, by simp⟩
  · have ht' := exec_of_no_fault hs' fun k => (hfault k).not.mpr (hk k)
    have hcause : (effect i s').faultCause = (effect i s).faultCause := by
      rw [effect_faultCause, effect_faultCause, State.halted_eq_false.mp hs, State.halted_eq_false.mp hs']
    obtain ⟨evs, vs, hout⟩ := effect_output_of_isGateway hg hin hdraws
    exact ⟨fun _ => sameRegisters_effect_of_isGateway hg s, _, evs, vs, ht', hcause, hout⟩

/-- Settles O30: each of the three commands leaves the state with the write appended, and a refresh does not read the
trace. -/
theorem boundPinWriteLeavesGenerator : Obligations.BoundPinWriteLeavesGenerator := by
  intro s t i value _ hs hi ht hrun
  have heff : effect i s = s.emit (.pinWrite s.boundPin value) := by
    obtain rfl | ⟨rfl, rfl⟩ | ⟨rfl, rfl⟩ := hi <;> rfl
  obtain rfl : t = s.emit (.pinWrite s.boundPin value) := (eq_effect_of_exec_next ht hrun).trans heff
  obtain ⟨hregs, evs, hu, hv⟩ := s.refreshGenerator_emit (.pinWrite s.boundPin value)
  exact ⟨rfl, { State.SameRegisters.refl s with }, _, _, evs, exec_pgRefresh_of_running hs,
    exec_pgRefresh_of_running hrun, hregs, hu, hv⟩

/-- Settles O24: the pin test, then the mode test, then the event. -/
theorem gpioSetupConfiguresPin : Obligations.GpioSetupConfiguresPin := by
  intro pin mode s hs
  rw [Command.ofWords_append]
  refine ⟨decode_encode (.gpioSetup pin mode), ?_, ?_, ?_, ?_, ?_⟩
  · exact fun hp hm => exec_gpioSetup_of_valid hs hp hm
  · exact fun hp => exec_of_fault hs (k := .invalidPin) ⟨pin, rfl, hp⟩
  · exact fun hp hm => exec_of_fault hs (k := .invalidMode) ⟨pin, mode, rfl, hp, hm⟩
  · exact fun hle => modeValid_iff.mpr (.inl hle)
  · exact fun hge => modeValid_iff.trans (or_iff_right (by omega))

/-- Settles O25: the pin test, then the event, the draw and the response. -/
theorem gpioReadReturnsDrawnLevel : Obligations.GpioReadReturnsDrawnLevel := by
  intro pin s hs
  rw [Command.ofWords_append]
  refine ⟨decode_encode (.gpioRead pin), exec_gpioRead_of_valid hs, ?_, ?_⟩
  · exact fun hp => exec_of_fault hs (k := .invalidPin) ⟨pin, rfl, hp⟩
  · intro v vs hin
    rw [State.pinLevel, hin]

/-- Settles O26: the pin test, then the value test, which an analog-capable pin always passes, then the event. -/
theorem gpioWriteDrivesPin : Obligations.GpioWriteDrivesPin := by
  intro pin value s hs
  rw [Command.ofWords_append]
  refine ⟨decode_encode (.gpioWrite pin value), ?_, ?_, ?_, ?_⟩
  · exact fun hp hle => exec_gpioWrite_of_valid hs hp (.inl hle)
  · exact fun hp ha => exec_gpioWrite_of_valid hs hp (.inr ha)
  · exact fun hp hge ha =>
      exec_of_fault hs (k := .invalidValue) ⟨pin, value, rfl, hp, writeValueValid_eq_false hge ha⟩
  · exact fun hp => exec_of_fault hs (k := .invalidPin) ⟨pin, rfl, hp⟩

/-- Settles O27: GPIO.WRITE takes the value 1 on every valid pin and emits the same event. -/
theorem gpioHighDrivesPinHigh : Obligations.GpioHighDrivesPinHigh := by
  intro pin s hs
  rw [Command.ofWords_append]
  refine ⟨decode_encode (.gpioHigh pin), fun hp => ?_, ?_⟩
  · have hhigh := exec_gpioHigh_of_valid hs hp
    have hwrite := exec_gpioWrite_of_valid hs hp (value := 1) (.inl (by decide))
    exact ⟨hhigh, hhigh.trans hwrite.symm⟩
  · exact fun hp => exec_of_fault hs (k := .invalidPin) ⟨pin, rfl, hp⟩

/-- Settles O28: GPIO.WRITE takes the value 0 on every valid pin and emits the same event. -/
theorem gpioLowDrivesPinLow : Obligations.GpioLowDrivesPinLow := by
  intro pin s hs
  rw [Command.ofWords_append]
  refine ⟨decode_encode (.gpioLow pin), fun hp => ?_, ?_⟩
  · have hlow := exec_gpioLow_of_valid hs hp
    have hwrite := exec_gpioWrite_of_valid hs hp (value := 0) (.inl (by decide))
    exact ⟨hlow, hlow.trans hwrite.symm⟩
  · exact fun hp => exec_of_fault hs (k := .invalidPin) ⟨pin, rfl, hp⟩

end Sys2Proof.Machine
end

section
/-! SUPPORT. The pulse generator (41_pulse_generator.md): real time and the clock's 32-bit count, when a refresh is due and
what it then does, what the generator's commands do in a running block, and runs of PG.REFRESH commands that all come too
early. -/

namespace Sys2Proof.Machine

/-! ## Real time and samples -/

/-- The wrapped difference of two samples less than 2^32 ms apart is the real time between them (R57, R124). -/
theorem sampleAt_sub_toNat {last time : Nat} (hle : last ≤ time) (hlt : time - last < 2 ^ 32) :
    (sampleAt time - sampleAt last).toNat = time - last := by
  simp only [sampleAt, BitVec.toNat_sub, BitVec.toNat_ofNat]
  omega

theorem State.clockSample_of_clockIn {s : State} {now : Word} {later : List Word} (h : s.clockIn = now :: later) :
    s.clockSample = now := by
  rw [State.clockSample, h]

/-- Samples at real times that do not decrease are taken at or after the first (R57 (a)). -/
theorem ClockPremises.le {last : Nat} {times : List Nat} (h : ClockPremises last times) {time : Nat}
    (ht : time ∈ times) : last ≤ time :=
  h.1.rel_cons ht

/-- Where every poll but the last comes too early, the last comes less than the duration plus the last gap after the start;
with no earlier poll the gap runs from the start itself (R134). -/
theorem sub_lt_add_last_gap {last duration : Nat} {times : List Nat} (hpos : 0 < duration)
    (hearly : ∀ time ∈ times, time - last < duration) (final : Nat) :
    final - last < duration + (final - times.getLastD last) := by
  have hprev : times.getLastD last - last < duration := by
    obtain h | h := List.mem_cons.mp (List.getLastD_mem_cons (l := times) (a := last))
    · rw [h, Nat.sub_self]
      exact hpos
    · exact hearly _ h
  omega

/-! ## The active duration and the comparison -/

/-- The configured duration of a phase, in progress or not (R122). -/
def State.duration (s : State) : Phase → Word
  | .on => s.pgOnTime
  | .off => s.pgOffTime

theorem State.activeDuration_eq_duration (s : State) : s.activeDuration = s.duration s.pgPhase := by
  rw [State.activeDuration]
  cases s.pgPhase <;> rfl

theorem State.activeDuration_of_on {s : State} (h : s.pgPhase = .on) : s.activeDuration = s.pgOnTime := by
  rw [State.activeDuration, h]

theorem State.activeDuration_of_off {s : State} (h : s.pgPhase = .off) : s.activeDuration = s.pgOffTime := by
  rw [State.activeDuration, h]

theorem State.due_eq_false_iff {s : State} {now : Word} :
    s.due now = false ↔ (now - s.pgLastT).toNat < s.activeDuration.toNat := by
  rw [← Bool.not_eq_true, State.due_iff, Nat.not_le]

/-- A phase of duration 0 is due at every sample (R126, R135). -/
theorem State.due_of_activeDuration_eq_zero {s : State} (h : s.activeDuration = 0) (now : Word) : s.due now = true := by
  rw [State.due_iff, h]
  exact Nat.zero_le _

/-- What a refresh with the sample `now` compares is the same in states with the same registers. -/
theorem State.SameRegisters.due_eq {s t : State} (h : s.SameRegisters t) (now : Word) : t.due now = s.due now := by
  rw [State.due, State.due, State.elapsed, State.elapsed, State.activeDuration, State.activeDuration, h.pgPhase,
    h.pgOnTime, h.pgOffTime, h.pgLastT]

theorem State.SameRegisters.boundPin_eq {s t : State} (h : s.SameRegisters t) : t.boundPin = s.boundPin := by
  rw [State.boundPin, State.boundPin, h.pgPort, h.pgIndex]

theorem State.SameRegisters.halted_eq {s t : State} (h : s.SameRegisters t) : t.halted = s.halted := by
  rw [State.halted, State.halted, h.faultCause]

theorem State.SameRegisters.trans {s t u : State} (h : s.SameRegisters t) (h' : t.SameRegisters u) :
    s.SameRegisters u where
  pgReady := h'.pgReady.trans h.pgReady
  pgPort := h'.pgPort.trans h.pgPort
  pgIndex := h'.pgIndex.trans h.pgIndex
  pgPhase := h'.pgPhase.trans h.pgPhase
  pgOnTime := h'.pgOnTime.trans h.pgOnTime
  pgOffTime := h'.pgOffTime.trans h.pgOffTime
  pgLastT := h'.pgLastT.trans h.pgLastT
  mdReady := h'.mdReady.trans h.mdReady
  mdPeriod := h'.mdPeriod.trans h.mdPeriod
  faultCause := h'.faultCause.trans h.faultCause
  faultCmd := h'.faultCmd.trans h.faultCmd

theorem State.sameRegisters_drawClock (s : State) : s.SameRegisters s.drawClock :=
  { State.SameRegisters.refl s with }

/-! ## What a refresh does -/

/-- Everything a refresh that makes a transition does, as one update (R125, R129). -/
theorem State.transition_drawClock_eq (s : State) (now : Word) : s.drawClock.transition now =
    { s with
      pgPhase := s.pgPhase.flip, pgLastT := now, trace := s.trace ++ [.pinWrite s.boundPin s.pgPhase.flip.level],
      clockIn := s.clockIn.tail, clockDraws := s.clockDraws + 1 } := rfl

/-- A refresh of a ready generator changes the phase exactly when it is due (R123). -/
theorem State.refreshGenerator_pgPhase_ne_iff {s : State} (hr : s.pgReady = true) :
    s.refreshGenerator.pgPhase ≠ s.pgPhase ↔ s.due s.clockSample = true := by
  cases hd : s.due s.clockSample with
  | true => rw [State.refreshGenerator_of_due hr hd]; exact iff_of_true s.pgPhase.flip_ne rfl
  | false => rw [State.refreshGenerator_of_not_due hr hd]; simp

/-- A refresh that makes a transition enters the other phase, with that phase's duration (R122, R125). -/
theorem State.refreshGenerator_activeDuration {s : State} (hr : s.pgReady = true)
    (hne : s.refreshGenerator.pgPhase ≠ s.pgPhase) :
    s.refreshGenerator.activeDuration = s.duration s.pgPhase.flip := by
  rw [State.refreshGenerator_of_due hr ((State.refreshGenerator_pgPhase_ne_iff hr).mp hne)]
  exact State.activeDuration_eq_duration _

/-- Setting the durations moves no baseline: a refresh right after it compares the time since the phase began with the
duration then active, and a phase it enters has the other one (R132). -/
theorem State.refreshGenerator_setDurations {s : State} (hr : s.pgReady = true) (on off : Word) {active other : Word}
    (hactive : (s.setDurations on off).activeDuration = active)
    (hother : (s.setDurations on off).duration s.pgPhase.flip = other) :
    ((s.setDurations on off).refreshGenerator.pgPhase ≠ s.pgPhase ↔
        active.toNat ≤ (s.clockSample - s.pgLastT).toNat) ∧
      ((s.setDurations on off).refreshGenerator.pgPhase ≠ s.pgPhase →
        (s.setDurations on off).refreshGenerator.activeDuration = other) := by
  subst hactive hother
  exact ⟨(State.refreshGenerator_pgPhase_ne_iff (s := s.setDurations on off) hr).trans (State.due_iff _ _),
    State.refreshGenerator_activeDuration (s := s.setDurations on off) hr⟩

theorem State.refreshGenerator_setDurations_of_on {s : State} (hr : s.pgReady = true) (on off : Word)
    (hp : s.pgPhase = .on) :
    ((s.setDurations on off).refreshGenerator.pgPhase ≠ s.pgPhase ↔ on.toNat ≤ (s.clockSample - s.pgLastT).toNat) ∧
      ((s.setDurations on off).refreshGenerator.pgPhase ≠ s.pgPhase →
        (s.setDurations on off).refreshGenerator.activeDuration = off) :=
  State.refreshGenerator_setDurations hr on off (State.activeDuration_of_on hp) (by rw [hp]; rfl)

theorem State.refreshGenerator_setDurations_of_off {s : State} (hr : s.pgReady = true) (on off : Word)
    (hp : s.pgPhase = .off) :
    ((s.setDurations on off).refreshGenerator.pgPhase ≠ s.pgPhase ↔ off.toNat ≤ (s.clockSample - s.pgLastT).toNat) ∧
      ((s.setDurations on off).refreshGenerator.pgPhase ≠ s.pgPhase →
        (s.setDurations on off).refreshGenerator.activeDuration = on) :=
  State.refreshGenerator_setDurations hr on off (State.activeDuration_of_off hp) (by rw [hp]; rfl)

/-! ## The generator's commands, and the mapper's before its init, in a running block -/

section
variable {s : State} (hs : s.halted = false)
include hs

theorem exec_pgRefresh_of_due (hr : s.pgReady = true) (hd : s.due s.clockSample = true) :
    exec .pgRefresh s = .next (s.drawClock.transition s.clockSample) := by
  rw [exec_pgRefresh_of_running hs, State.refreshGenerator_of_due hr hd]

theorem exec_pgRefresh_of_not_due (hr : s.pgReady = true) (hd : s.due s.clockSample = false) :
    exec .pgRefresh s = .next s.drawClock := by
  rw [exec_pgRefresh_of_running hs, State.refreshGenerator_of_not_due hr hd]

theorem exec_pgRefresh_of_not_ready (hr : s.pgReady = false) : exec .pgRefresh s = .next s := by
  rw [exec_pgRefresh_of_running hs, State.refreshGenerator_of_not_ready hr]

theorem exec_pgSetOn_of_ready (hr : s.pgReady = true) (d : Word) :
    exec (.pgSetOn d) s = .next (s.setDurations d s.pgOffTime) := by
  simp only [exec_of_running hs, hr, if_true]

theorem exec_pgSetOn_of_not_ready (hr : s.pgReady = false) (d : Word) : exec (.pgSetOn d) s = .next s := by
  simp only [exec_of_running hs, hr, Bool.false_eq_true, if_false]

theorem exec_pgSetOff_of_ready (hr : s.pgReady = true) (d : Word) :
    exec (.pgSetOff d) s = .next (s.setDurations s.pgOnTime d) := by
  simp only [exec_of_running hs, hr, if_true]

theorem exec_pgSetOff_of_not_ready (hr : s.pgReady = false) (d : Word) : exec (.pgSetOff d) s = .next s := by
  simp only [exec_of_running hs, hr, Bool.false_eq_true, if_false]

theorem exec_pgInit_of_valid {pin : Pin} (hpin : pinValid s.platform pin = true) (on off : Word) :
    exec (.pgInit pin on off) s = .next (s.startGenerator pin on off) := by
  simp only [exec_of_running hs, whenPinValid_of_valid hpin]

theorem exec_mdRefresh_of_not_ready (hm : s.mdReady = false) : exec .mdRefresh s = .next s := by
  simp only [exec_of_running hs, hm, Bool.false_eq_true, if_false]

theorem exec_mdSetFreq_of_not_ready (hm : s.mdReady = false) (f : Word) : exec (.mdSetFreq f) s = .next s := by
  simp only [exec_of_running hs, hm, Bool.false_eq_true, if_false]

theorem exec_mdSetDuty_of_not_ready (hm : s.mdReady = false) (d : Word) : exec (.mdSetDuty d) s = .next s := by
  simp only [exec_of_running hs, hm, Bool.false_eq_true, if_false]

end

/-! ## Runs of polls -/

/-- A run of one step more ends with the step of the state it had reached. -/
theorem run_succ_of_run {k : Nat} {s t : State} (h : Host.Core.run core k s = .next t) :
    Host.Core.run core (k + 1) s = step t := by
  induction k generalizing s with
  | zero => cases h; exact run_one _
  | succ k ih =>
    obtain ⟨u, hu, hr⟩ := run_succ_eq_next h
    rw [run_succ_of_next hu]
    exact ih hr

/-- A step on a PG.REFRESH command refreshes the generator. -/
theorem step_pgRefresh {s : State} {rest : List Word} (hs : s.halted = false)
    (hp : s.port = (encode .pgRefresh).words ++ rest) : step s = .next (s.withPort rest).refreshGenerator :=
  (step_of_decode_ok hs hp (decode_encode .pgRefresh)).trans (exec_pgRefresh_of_running (s := s.withPort rest) hs)

/-- While no poll is due a run of polls changes no register and emits no event: it uses up its samples and its commands. -/
theorem run_polls_not_due {s : State} {nows later rest : List Word} (hs : s.halted = false) (hr : s.pgReady = true)
    (hin : s.clockIn = nows ++ later)
    (hp : s.port = (List.replicate nows.length (encode .pgRefresh)).flatMap Command.words ++ rest)
    (hd : ∀ now ∈ nows, s.due now = false) :
    ∃ t, Host.Core.run core nows.length s = .next t ∧ s.SameRegisters t ∧ t.trace = s.trace ∧
      t.clockIn = later ∧ t.port = rest := by
  induction nows generalizing s with
  | nil => exact ⟨s, run_zero s, .refl s, rfl, hin, hp⟩
  | cons now nows ih =>
    obtain ⟨hnow, hnows⟩ := List.forall_mem_cons.mp hd
    rw [List.length_cons, List.replicate_succ, List.flatMap_cons, List.append_assoc] at hp
    generalize hports : (List.replicate nows.length (encode .pgRefresh)).flatMap Command.words ++ rest = ports at hp
    have hstep : step s = .next (s.withPort ports).drawClock := by
      have hsample : s.clockSample = now := State.clockSample_of_clockIn hin
      rw [step_pgRefresh hs hp]
      exact congrArg _ (State.refreshGenerator_of_not_due (s := s.withPort ports) hr (hsample ▸ hnow))
    obtain ⟨t, hrun, hsame, htrace, hlater, hrest⟩ :=
      ih (s := (s.withPort ports).drawClock) hs hr (congrArg List.tail hin) hports.symm hnows
    have hfirst : s.SameRegisters (s.withPort ports).drawClock := { State.SameRegisters.refl s with }
    exact ⟨t, (run_succ_of_next hstep _).trans hrun, hfirst.trans hsame, htrace, hlater, hrest⟩

end Sys2Proof.Machine
end

section
/-! The pulse generator: what its four commands do, the elapsed time over a wrap of the clock, phases of duration 0, setters
during a phase, refreshes that come too early, and the length of a phase under polling (41_pulse_generator.md). -/

namespace Sys2Proof.Machine

/-- Settles O35: the wrapped difference is the real one, and a refresh compares it with the active duration. -/
theorem elapsedTimeSurvivesClockWrap : Obligations.ElapsedTimeSurvivesClockWrap := by
  intro s last elapsed rest hs hr hlt hlast hin
  have hsample := State.clockSample_of_clockIn hin
  have helapsed : (s.clockSample - s.pgLastT).toNat = elapsed := by
    rw [hsample, hlast, sampleAt_sub_toNat (Nat.le_add_right last elapsed) (by omega), Nat.add_sub_cancel_left]
  have hdue : s.due s.clockSample = true ↔ s.activeDuration.toNat ≤ elapsed := by rw [State.due_iff, helapsed]
  refine ⟨helapsed, _, exec_pgRefresh_of_running hs, (State.refreshGenerator_pgPhase_ne_iff hr).trans hdue, fun hd => ?_⟩
  rw [State.refreshGenerator_of_due hr (hdue.mpr hd)]
  exact hsample

/-- Settles O36: the phase entered is due at once, and its transition undoes the flip of the one that entered it. -/
theorem zeroDurationPhaseIsLeftAtNextRefresh : Obligations.ZeroDurationPhaseIsLeftAtNextRefresh := by
  intro s t hs hr ht hphase hzero
  cases (exec_pgRefresh_of_running hs).symm.trans ht
  have hd := (State.refreshGenerator_pgPhase_ne_iff hr).mp hphase
  rw [State.refreshGenerator_of_due hr hd] at hzero ⊢
  refine ⟨rfl, _, exec_pgRefresh_of_due hs hr (State.due_of_activeDuration_eq_zero hzero _), ?_⟩
  simp [State.transition_drawClock_eq, State.boundPin]

/-- Settles O37: the refresh compares with what the setter wrote where its phase is in progress, else with what it kept; and
the phase it enters has the duration the setter wrote. -/
theorem setterIsHonouredAtNextComparison : Obligations.SetterIsHonouredAtNextComparison := by
  intro s t u i d hs hr hi ht hu
  obtain rfl | rfl := hi
  · cases (exec_pgSetOn_of_ready hs hr d).symm.trans ht
    cases (exec_pgRefresh_of_running (s := s.setDurations d s.pgOffTime) hs).symm.trans hu
    refine ⟨fun _ => rfl, nofun, ?_, ?_⟩
    · rintro (⟨-, hp⟩ | ⟨hi, -⟩)
      · exact (State.refreshGenerator_setDurations_of_on hr d s.pgOffTime hp).1
      · cases hi
    · rintro (⟨-, hp⟩ | ⟨hi, -⟩)
      · rw [State.activeDuration_of_off hp]
        exact State.refreshGenerator_setDurations_of_off hr d s.pgOffTime hp
      · cases hi
  · cases (exec_pgSetOff_of_ready hs hr d).symm.trans ht
    cases (exec_pgRefresh_of_running (s := s.setDurations s.pgOnTime d) hs).symm.trans hu
    refine ⟨nofun, fun _ => rfl, ?_, ?_⟩
    · rintro (⟨hi, -⟩ | ⟨-, hp⟩)
      · cases hi
      · exact (State.refreshGenerator_setDurations_of_off hr s.pgOnTime d hp).1
    · rintro (⟨hi, -⟩ | ⟨-, hp⟩)
      · cases hi
      · rw [State.activeDuration_of_on hp]
        exact State.refreshGenerator_setDurations_of_on hr s.pgOnTime d hp

/-- Settles O38: the elapsed time is below the active duration, or the duration is 0 and always reached. -/
theorem refreshBeforeDueIsIdempotent : Obligations.RefreshBeforeDueIsIdempotent := by
  intro s hs hr
  constructor
  · intro hne hearly
    have hlt : (s.clockSample - s.pgLastT).toNat < s.activeDuration.toNat := by
      obtain h | ⟨-, h⟩ := hearly
      · rw [h, BitVec.sub_self]
        exact BitVec.toNat_pos_of_ne_zero hne
      · exact h
    exact ⟨_, exec_pgRefresh_of_not_due hs hr (State.due_eq_false_iff.mpr hlt), s.sameRegisters_drawClock, rfl⟩
  · intro hzero
    exact ⟨_, exec_pgRefresh_of_due hs hr (State.due_of_activeDuration_eq_zero hzero _), rfl, rfl, rfl⟩

/-- Settles O39: the polls before the last one are not due, so the last one meets the registers of the phase's start. -/
theorem phaseLengthUnderPolling : Obligations.PhaseLengthUnderPolling := by
  intro s last final times rest hs hr hlast hprem hin hp hearly
  have helapsed (time : Nat) (ht : time ∈ times ++ [final]) : (sampleAt time - s.pgLastT).toNat = time - last := by
    rw [hlast, sampleAt_sub_toNat (hprem.le ht) (hprem.2 time ht)]
  have hpolls : ∀ now ∈ times.map sampleAt, s.due now = false := by
    refine List.forall_mem_map.mpr fun time ht => State.due_eq_false_iff.mpr ?_
    rw [helapsed time (List.mem_append_left _ ht)]
    exact hearly time ht
  rw [List.replicate_succ', List.flatMap_append, List.append_assoc] at hp
  rw [List.map_append] at hin
  obtain ⟨t, hrun, hsame, htrace, hsamples, hport⟩ :=
    run_polls_not_due hs hr hin (by rwa [List.length_map]) hpolls
  rw [List.length_map] at hrun
  rw [List.flatMap_singleton] at hport
  have hnow : t.clockSample = sampleAt final := State.clockSample_of_clockIn hsamples
  have hdue : t.due t.clockSample = s.due (sampleAt final) := by rw [hnow, hsame.due_eq]
  have hfinal := helapsed final (List.mem_append_right _ (List.mem_singleton_self final))
  refine ⟨t, (t.withPort rest).refreshGenerator, hrun, hsame, htrace,
    (run_succ_of_run hrun).trans (step_pgRefresh (hsame.halted_eq.trans hs) hport), fun hlt => ?_, fun hle => ?_⟩
  · have hd := hdue.trans (State.due_eq_false_iff.mpr (hfinal ▸ hlt))
    rw [State.refreshGenerator_of_not_due (s := t.withPort rest) (hsame.pgReady.trans hr) hd]
    exact ⟨hsame.trans { State.SameRegisters.refl t with }, htrace⟩
  · have hd := hdue.trans ((s.due_iff _).mpr (hfinal ▸ hle))
    rw [State.refreshGenerator_of_due (s := t.withPort rest) (hsame.pgReady.trans hr) hd]
    refine ⟨congrArg Phase.flip hsame.pgPhase, hnow, ?_, fun hpos => sub_lt_add_last_gap hpos hearly final⟩
    rw [State.transition_drawClock_eq, ← htrace, ← hsame.boundPin_eq, ← hsame.pgPhase]
    rfl

/-- Settles O31: the pin test, then the start of the generator, which reads no register. -/
theorem pgInitStartsGeneratorInOff : Obligations.PgInitStartsGeneratorInOff := by
  intro pin on off s hs
  rw [Command.ofWords_append]
  refine ⟨decode_encode (.pgInit pin on off), ?_, ?_⟩
  · exact fun hpin => exec_pgInit_of_valid hs hpin on off
  · exact fun hpin => exec_of_fault hs (k := .invalidPin) ⟨pin, rfl, hpin⟩

/-- Settles O32: the active duration is that of the phase in progress, and the refresh is due exactly when it is reached. -/
theorem pgRefreshMakesDueTransition : Obligations.PgRefreshMakesDueTransition := by
  refine ⟨decode_encode .pgRefresh, fun s hs => ⟨exec_pgRefresh_of_not_ready hs, ?_, ?_, ?_⟩⟩
  · intro hr hp hle
    rw [← State.activeDuration_of_off hp] at hle
    rw [exec_pgRefresh_of_due hs hr ((s.due_iff _).mpr hle), State.transition_drawClock_eq, hp]
    rfl
  · intro hr hp hle
    rw [← State.activeDuration_of_on hp] at hle
    rw [exec_pgRefresh_of_due hs hr ((s.due_iff _).mpr hle), State.transition_drawClock_eq, hp]
    rfl
  · intro hr hearly
    have hlt : (s.clockSample - s.pgLastT).toNat < s.activeDuration.toNat := by
      obtain ⟨hp, hlt⟩ | ⟨hp, hlt⟩ := hearly
      · rwa [State.activeDuration_of_off hp]
      · rwa [State.activeDuration_of_on hp]
    exact exec_pgRefresh_of_not_due hs hr (State.due_eq_false_iff.mpr hlt)

/-- Settles O33: PG_READY, then the one duration, the other being written with itself. -/
theorem pgSetOnWritesOnTime : Obligations.PgSetOnWritesOnTime := by
  intro d s hs
  have hword : Command.ofWords 0x22000000 d 0 = encode (.pgSetOn d) := Command.ofWords_append 0x22 0 0 0 d 0
  rw [hword]
  exact ⟨decode_encode _, fun hr => exec_pgSetOn_of_ready hs hr d, fun hr => exec_pgSetOn_of_not_ready hs hr d⟩

/-- Settles O34: PG_READY, then the one duration, the other being written with itself. -/
theorem pgSetOffWritesOffTime : Obligations.PgSetOffWritesOffTime := by
  intro d s hs
  have hword : Command.ofWords 0x23000000 d 0 = encode (.pgSetOff d) := Command.ofWords_append 0x23 0 0 0 d 0
  rw [hword]
  exact ⟨decode_encode _, fun hr => exec_pgSetOff_of_ready hs hr d, fun hr => exec_pgSetOff_of_not_ready hs hr d⟩

/-- Settles O41: each of the six commands asks its ready bit before anything else. -/
theorem uninitializedCommandsAreNoOps : Obligations.UninitializedCommandsAreNoOps := by
  intro s hs
  constructor
  · exact fun hr d => ⟨exec_pgRefresh_of_not_ready hs hr, exec_pgSetOn_of_not_ready hs hr d,
      exec_pgSetOff_of_not_ready hs hr d⟩
  · exact fun hm d => ⟨exec_mdRefresh_of_not_ready hs hm, exec_mdSetFreq_of_not_ready hs hm d,
      exec_mdSetDuty_of_not_ready hs hm d⟩

end Sys2Proof.Machine
end

section
/-! SUPPORT. The duty-cycle mapper (42_duty_mapper.md): the period and the two durations as numbers, what the mapper's commands
do in a running block, and that the generator's commands do not see the mapper's registers. -/

namespace Sys2Proof

/-- The commands of the pulse generator (41_pulse_generator.md R128 to R131). -/
def Instr.IsGenerator (i : Instr) : Prop :=
  (∃ pin on off, i = .pgInit pin on off) ∨ i = .pgRefresh ∨ (∃ d, i = .pgSetOn d) ∨ ∃ d, i = .pgSetOff d

namespace Machine

/-! ## The period and the durations as numbers -/

/-- The period is 0 exactly above 1000 Hz (R153). -/
theorem period_eq_zero_iff {f : Word} (hf : 1 ≤ f.toNat) : (period f).toNat = 0 ↔ 1001 ≤ f.toNat := by
  rw [period_toNat, Nat.div_eq_zero_iff]
  omega

/-- The clamp of R154 on signed integers. -/
theorem dutyFixed_eq_clamp (d : Word) : (dutyFixed d : Int) = min (max d.toInt 0) 65536 := by
  unfold dutyFixed
  split
  · omega
  · split <;> omega

theorem dutyFixed_of_nonpos {d : Word} (h : d.toInt ≤ 0) : dutyFixed d = 0 := by
  have hclamp := dutyFixed_eq_clamp d
  omega

theorem dutyFixed_of_ge {d : Word} (h : 65536 ≤ d.toInt) : dutyFixed d = 65536 := by
  have hclamp := dutyFixed_eq_clamp d
  omega

/-- The on-time is the period times the clamped duty cycle, rounded down (R154). -/
theorem dutyOn_eq_clamp (p d : Word) : (dutyOn p d : Int) = (p.toNat : Int) * min (max d.toInt 0) 65536 / 65536 := by
  rw [← dutyFixed_eq_clamp]
  rfl

/-- The registers' 32 bits hold the on-time exactly. -/
theorem toNat_ofNat_dutyOn (p d : Word) : (BitVec.ofNat 32 (dutyOn p d)).toNat = dutyOn p d :=
  (BitVec.toNat_ofNat _ _).trans (Nat.mod_eq_of_lt (dutyOn_lt p d))

theorem toNat_ofNat_dutyOff (p d : Word) : (BitVec.ofNat 32 (dutyOff p d)).toNat = dutyOff p d :=
  (BitVec.toNat_ofNat _ _).trans (Nat.mod_eq_of_lt (dutyOff_lt p d))

/-- What MD.SETDUTY writes sums to the period: nothing is lost by rounding or narrowing (R162). -/
theorem toNat_dutyOn_add_toNat_dutyOff (p d : Word) :
    (BitVec.ofNat 32 (dutyOn p d)).toNat + (BitVec.ofNat 32 (dutyOff p d)).toNat = p.toNat := by
  rw [toNat_ofNat_dutyOn, toNat_ofNat_dutyOff]
  exact Nat.add_sub_cancel' (dutyOn_le p d)

/-- With a period of 0 every duty cycle has on-time 0 (R153). -/
theorem dutyOn_zero (d : Word) : dutyOn 0 d = 0 := Nat.le_zero.mp (dutyOn_le 0 d)

theorem dutyOff_zero (d : Word) : dutyOff 0 d = 0 := Nat.le_zero.mp (Nat.sub_le _ _)

/-! ## The mapper's commands in a running block -/

section
variable {s : State} (hs : s.halted = false)
include hs

theorem exec_mdInit_of_valid {pin : Pin} {f : Word} (hpin : pinValid s.platform pin = true) (hf : f ≠ 0) :
    exec (.mdInit pin f) s = .next (((s.setPeriod (period f)).startGenerator pin 0 (period f)).markMdReady) := by
  simp only [exec_of_running hs, whenPinValid_of_valid hpin, if_neg hf]

/-- MD.REFRESH of a ready mapper is PG.REFRESH (R156). -/
theorem exec_mdRefresh_of_ready (hm : s.mdReady = true) : exec .mdRefresh s = exec .pgRefresh s := by
  simp only [exec_of_running hs, hm, if_true]

theorem exec_mdSetFreq_of_ready (hm : s.mdReady = true) {f : Word} (hf : f ≠ 0) :
    exec (.mdSetFreq f) s = .next (s.setPeriod (period f)) := by
  simp only [exec_of_running hs, hm, if_true, if_neg hf]

theorem exec_mdSetDuty_of_ready (hm : s.mdReady = true) (d : Word) : exec (.mdSetDuty d) s =
    .next (s.setDurations (BitVec.ofNat 32 (dutyOn s.mdPeriod d)) (BitVec.ofNat 32 (dutyOff s.mdPeriod d))) := by
  simp only [exec_of_running hs, hm, if_true]

end

/-- MD.SETDUTY reads of its operand the clamped duty cycle only, in every state (R154). -/
theorem exec_mdSetDuty_congr {d d' : Word} (h : dutyFixed d = dutyFixed d') (s : State) :
    exec (.mdSetDuty d) s = exec (.mdSetDuty d') s := by
  have hon : dutyOn s.mdPeriod d = dutyOn s.mdPeriod d' := by rw [dutyOn, dutyOn, h]
  have hoff : dutyOff s.mdPeriod d = dutyOff s.mdPeriod d' := by rw [dutyOff, dutyOff, hon]
  cases hs : s.halted with
  | true => rw [exec_of_halted hs, exec_of_halted hs]
  | false =>
    cases hm : s.mdReady with
    | false => rw [exec_mdSetDuty_of_not_ready hs hm, exec_mdSetDuty_of_not_ready hs hm]
    | true => rw [exec_mdSetDuty_of_ready hs hm, exec_mdSetDuty_of_ready hs hm, hon, hoff]

/-! ## The generator's commands and the mapper's registers (R164) -/

/-- The state with other values in MD_READY and MD_PERIOD. -/
def State.withMapper (s : State) (ready : Bool) (p : Word) : State := { s with mdReady := ready, mdPeriod := p }

/-- A refresh commutes with a change of the mapper's registers: it neither reads nor writes them. -/
theorem State.refreshGenerator_withMapper (s : State) (ready : Bool) (p : Word) :
    (s.withMapper ready p).refreshGenerator = s.refreshGenerator.withMapper ready p := by
  obtain ⟨hr, he⟩ | ⟨hr, hd, he⟩ | ⟨hr, hd, he⟩ := s.refreshGenerator_cases <;> rw [he]
  · exact State.refreshGenerator_of_not_ready (s := s.withMapper ready p) hr
  · exact State.refreshGenerator_of_due (s := s.withMapper ready p) hr hd
  · exact State.refreshGenerator_of_not_due (s := s.withMapper ready p) hr hd

theorem effect_withMapper_of_isGenerator {i : Instr} (hi : i.IsGenerator) (s : State) (ready : Bool) (p : Word) :
    effect i (s.withMapper ready p) = (effect i s).withMapper ready p := by
  obtain ⟨pin, on, off, rfl⟩ | rfl | ⟨d, rfl⟩ | ⟨d, rfl⟩ := hi
  · rfl
  · exact s.refreshGenerator_withMapper ready p
  · simp only [effect, apply_ite (State.withMapper · ready p)]
    rfl
  · simp only [effect, apply_ite (State.withMapper · ready p)]
    rfl

/-- The one cause whose condition asks for MD_READY, ZERO_FREQUENCY, is never a generator command's. -/
theorem operandFault_withMapper_of_isGenerator {i : Instr} (hi : i.IsGenerator) (s : State) (ready : Bool) (p : Word)
    (k : FaultCause) : operandFault k i (s.withMapper ready p) ↔ operandFault k i s := by
  cases k with
  | zeroFrequency =>
    obtain ⟨pin, on, off, rfl⟩ | rfl | ⟨d, rfl⟩ | ⟨d, rfl⟩ := hi <;> simp [operandFault]
  | _ => rfl

/-- A generator command commutes with a change of the mapper's registers. -/
theorem exec_withMapper_of_isGenerator {i : Instr} (hi : i.IsGenerator) {s t : State} (ht : exec i s = .next t)
    (ready : Bool) (p : Word) : exec i (s.withMapper ready p) = .next (t.withMapper ready p) := by
  have hfault (k : FaultCause) := operandFault_withMapper_of_isGenerator hi s ready p k
  obtain ⟨hs, ⟨k, hk, rfl⟩ | ⟨hk, rfl⟩⟩ := exec_next_cases ht
  · exact exec_of_fault (s := s.withMapper ready p) hs ((hfault k).mpr hk)
  · rw [← effect_withMapper_of_isGenerator hi]
    exact exec_of_no_fault (s := s.withMapper ready p) hs fun k => (hfault k).not.mpr (hk k)

end Machine

end Sys2Proof
end

section
/-! The duty-cycle mapper: what its commands do, the range of its period, the sum of its durations, the clamp of the duty cycle,
and that the generator's commands neither read nor write its registers (42_duty_mapper.md). -/

namespace Sys2Proof.Machine

/-- Settles O47: the on-time and the off-time are at most the period, and a phase of duration 0 is due at every sample. -/
theorem periodRangeAndZeroPeriod : Obligations.PeriodRangeAndZeroPeriod := by
  refine ⟨fun f hf => ⟨period_le f, period_eq_zero_iff hf⟩, by decide, by decide, ?_, ?_⟩
  · intro s d hs hm hp
    have hexec := exec_mdSetDuty_of_ready hs hm d
    rw [hp, dutyOn_zero, dutyOff_zero] at hexec
    exact hexec
  · intro s i hs hr hon hoff hi
    have hexec : exec i s = exec .pgRefresh s := by
      obtain rfl | ⟨rfl, hm⟩ := hi
      · rfl
      · exact exec_mdRefresh_of_ready hs hm
    have hzero : s.activeDuration = 0 := by
      cases hp : s.pgPhase with
      | on => rw [State.activeDuration_of_on hp, hon]
      | off => rw [State.activeDuration_of_off hp, hoff]
    exact ⟨_, hexec.trans (exec_pgRefresh_of_due hs hr (State.due_of_activeDuration_eq_zero hzero _)), rfl, hon, hoff⟩

/-- Settles O48: MD.INIT splits the period into 0 and all of it, MD.SETDUTY into the on-time and the rest. -/
theorem durationsSumToPeriod : Obligations.DurationsSumToPeriod := by
  constructor
  · intro s t i hi ht hrun
    obtain ⟨hs, -⟩ := exec_next_cases ht
    obtain ⟨pin, f, rfl⟩ | ⟨d, rfl, hm⟩ := hi
    · rw [eq_effect_of_exec_next ht hrun]
      exact Nat.zero_add _
    · cases (exec_mdSetDuty_of_ready hs hm d).symm.trans ht
      exact toNat_dutyOn_add_toNat_dutyOff s.mdPeriod d
  · intro s f d hs hm hf
    have hne : f ≠ 0 := by
      rintro rfl
      exact Nat.lt_irrefl 0 hf
    refine ⟨_, _, exec_mdSetFreq_of_ready hs hm hne, rfl, rfl,
      exec_mdSetDuty_of_ready (s := s.setPeriod (period f)) hs hm d, ?_⟩
    exact (toNat_dutyOn_add_toNat_dutyOff (period f) d).trans (period_toNat f)

/-- Settles O49: the clamped duty cycle of such an operand is that of the end of the range. -/
theorem dutyCycleIsClamped : Obligations.DutyCycleIsClamped := by
  intro d s
  constructor
  · intro h
    have hzero : dutyFixed 0 = 0 := by decide
    exact exec_mdSetDuty_congr ((dutyFixed_of_nonpos h).trans hzero.symm) s
  · intro h
    have hone : dutyFixed 0x00010000 = 65536 := by decide
    exact exec_mdSetDuty_congr ((dutyFixed_of_ge h).trans hone.symm) s

/-- Settles O50: the command commutes with a change of the two registers; that it leaves them is the case in which they are
given the values they have. -/
theorem generatorCommandsIgnoreMapper : Obligations.GeneratorCommandsIgnoreMapper := by
  intro s t i ready p hi ht
  have hcomm := exec_withMapper_of_isGenerator hi ht
  have hself : t = t.withMapper s.mdReady s.mdPeriod :=
    Host.Outcome.next.inj (ht.symm.trans (hcomm s.mdReady s.mdPeriod))
  exact ⟨hcomm ready p, (congrArg State.mdReady hself :), (congrArg State.mdPeriod hself :)⟩

/-- Settles O42: the pin test, then the frequency test, then the period, which is also the off-time the generator starts
with. -/
theorem mdInitStartsMapper : Obligations.MdInitStartsMapper := by
  intro pin f s hs
  rw [Command.ofWords_append]
  refine ⟨decode_encode (.mdInit pin f), ?_, ?_, ?_⟩
  · exact fun hpin hf => exec_mdInit_of_valid hs hpin hf
  · rintro hpin rfl
    exact exec_of_fault hs (k := .zeroFrequency) (.inl ⟨pin, rfl, hpin⟩)
  · exact fun hpin => exec_of_fault hs (k := .invalidPin) ⟨pin, rfl, hpin⟩

/-- Settles O43: a ready mapper hands the command to PG.REFRESH, which is due exactly when the active duration is reached. -/
theorem mdRefreshDelegatesToGenerator : Obligations.MdRefreshDelegatesToGenerator := by
  refine ⟨decode_encode .mdRefresh, fun s hs =>
    ⟨exec_mdRefresh_of_not_ready hs, exec_mdRefresh_of_ready hs, ?_, ?_⟩⟩
  · intro hm hr hle
    exact (exec_mdRefresh_of_ready hs hm).trans (exec_pgRefresh_of_due hs hr ((s.due_iff _).mpr hle))
  · intro hm hr hlt
    exact (exec_mdRefresh_of_ready hs hm).trans (exec_pgRefresh_of_not_due hs hr (State.due_eq_false_iff.mpr hlt))

/-- Settles O44: MD_READY, then the frequency test, then the period alone. -/
theorem mdSetFreqRecomputesPeriodOnly : Obligations.MdSetFreqRecomputesPeriodOnly := by
  intro f s hs
  have hword : Command.ofWords 0x32000000 f 0 = encode (.mdSetFreq f) := Command.ofWords_append 0x32 0 0 0 f 0
  rw [hword]
  refine ⟨decode_encode _, ?_, ?_, fun hm => exec_mdSetFreq_of_not_ready hs hm f⟩
  · exact fun hm hf => exec_mdSetFreq_of_ready hs hm hf
  · rintro hm rfl
    exact exec_of_fault hs (k := .zeroFrequency) (.inr ⟨rfl, hm⟩)

/-- Settles O45: both durations are at most the period, so narrowing them to 32 bits loses nothing. -/
theorem mdSetDutySetsDurations : Obligations.MdSetDutySetsDurations := by
  intro d s hs
  have hword : Command.ofWords 0x33000000 d 0 = encode (.mdSetDuty d) := Command.ofWords_append 0x33 0 0 0 d 0
  rw [hword]
  refine ⟨decode_encode _, fun hm => exec_mdSetDuty_of_not_ready hs hm d, fun hm =>
    ⟨_, _, ?_, ?_, exec_mdSetDuty_of_ready hs hm d⟩⟩
  · rw [toNat_ofNat_dutyOn, dutyOn_eq_clamp]
  · have hsum := toNat_dutyOn_add_toNat_dutyOff s.mdPeriod d
    omega

/-- Settles O46: each of the three arms answers its state. -/
theorem directionHooksAreNoOps : Obligations.DirectionHooksAreNoOps :=
  ⟨decode_encode .mdForward, decode_encode .mdBackward, decode_encode .mdStop, fun _ hs =>
    ⟨exec_of_running hs .mdForward, exec_of_running hs .mdBackward, exec_of_running hs .mdStop⟩⟩

end Sys2Proof.Machine
end

section
/-! SUPPORT. Faults read from the state they leave (60_exceptions.md R181 to R183): the code in FAULT_CAUSE says which cause's
condition held, and a step that leaves one has done nothing but take the fault. -/

namespace Sys2Proof.Machine

theorem writeValueValid_eq_false_iff {p : Platform} {pin : Pin} {value : Word} :
    writeValueValid p pin value = false ↔ 2 ≤ value.toNat ∧ analogWriteCapable p pin = false := by
  rw [← Bool.not_eq_true, writeValueValid_iff, not_or, not_le, Bool.not_eq_true]
  rfl

/-- A decoded command takes no decode fault (R181). -/
theorem operandFault_cause {k : FaultCause} {i : Instr} {s : State} (h : operandFault k i s) :
    k = .invalidPin ∨ k = .zeroFrequency ∨ k = .invalidMode ∨ k = .invalidValue := by
  cases k with
  | illegalCommand | reservedBits => exact h.elim
  | _ => simp

/-- A command leaves a cause's code exactly on the condition of the cause's row: where none holds FAULT_CAUSE stays 0, which
is no cause's code. -/
theorem exec_faultCause_eq_code_iff {s t : State} {i : Instr} (h : exec i s = .next t) (k : FaultCause) :
    t.faultCause = k.code ↔ operandFault k i s := by
  obtain ⟨hs, hcases⟩ := exec_next_cases h
  constructor
  · intro hcode
    obtain ⟨l, hl, rfl⟩ | ⟨-, rfl⟩ := hcases
    · exact FaultCause.code_inj hcode ▸ hl
    · rw [effect_faultCause, State.halted_eq_false.mp hs] at hcode
      exact absurd hcode.symm k.code_ne_zero
  · intro hk
    cases h.symm.trans (exec_of_fault hs hk)
    rfl

theorem exec_faultCause_cases {s t : State} {i : Instr} (h : exec i s = .next t) :
    t.faultCause = 0 ∨ ∃ k, operandFault k i s ∧ t.faultCause = k.code := by
  obtain ⟨hs, ⟨k, hk, rfl⟩ | ⟨-, rfl⟩⟩ := exec_next_cases h
  · exact .inr ⟨k, hk, rfl⟩
  · exact .inl ((effect_faultCause i s).trans (State.halted_eq_false.mp hs))

/-- A step that executes a command and leaves a fault has taken the command off the port and taken a fault on it, at decode
or on an operand: an effect leaves FAULT_CAUSE at 0 (R182). -/
theorem step_eq_takeFault {s t : State} {c : Command} {rest : List Word} (hs : s.halted = false)
    (hp : s.port = c.words ++ rest) (h : step s = .next t) (hf : t.faultCause ≠ 0) :
    ∃ k, t = (s.withPort rest).takeFault k c := by
  cases hd : decode c with
  | error e =>
    rw [step_of_decode_error hs hp hd] at h
    cases h
    exact ⟨decodeCause e, rfl⟩
  | ok i =>
    rw [step_of_decode_ok hs hp hd] at h
    obtain ⟨-, ⟨k, -, rfl⟩ | ⟨-, rfl⟩⟩ := exec_next_cases h
    · rw [decodedCommandReencodes c i hd]
      exact ⟨k, rfl⟩
    · rw [effect_faultCause] at hf
      exact absurd (State.halted_eq_false.mp hs) hf

end Sys2Proof.Machine
end

section
/-! Faults: a step that leaves one is precise, and which fault a decoded command takes (60_exceptions.md). -/

namespace Sys2Proof.Machine

/-- Settles O12: what such a step leaves is the state before it, off the port, with the fault taken. -/
theorem faultIsPrecise : Obligations.FaultIsPrecise := by
  intro s t c rest hs hp h hf
  obtain ⟨k, rfl⟩ := step_eq_takeFault hs hp h hf
  obtain ⟨hlo, hhi⟩ := k.code_bounds
  exact ⟨rfl, hlo, hhi, step_of_halted (State.takeFault_halted ..)⟩

/-- Settles O13: the four conditions are those of `operandFault`, and the code that a command leaves names the one that
held. -/
theorem faultExactlyWhenItsCauseHolds : Obligations.FaultExactlyWhenItsCauseHolds := by
  intro s t i _ h
  have hcode := exec_faultCause_eq_code_iff h
  refine ⟨hcode .invalidPin, hcode .zeroFrequency, hcode .invalidMode, ?_, ?_⟩
  · simp only [← writeValueValid_eq_false_iff]
    exact hcode .invalidValue
  · obtain hzero | ⟨k, hk, hc⟩ := exec_faultCause_cases h
    · exact .inl hzero
    · obtain rfl | rfl | rfl | rfl := operandFault_cause hk <;> rw [hc] <;> decide

end Sys2Proof.Machine
end

section
/-! Reset (70_reset_and_hazards.md): the block that has just been reset runs and waits for a command. -/

namespace Sys2Proof.Machine

/-- The block reset on a platform is itself a reset block, so what holds of every reset block holds of it (R200). -/
theorem State.resetBlock_resetOn (p : Platform) : (State.resetOn p).resetBlock = State.resetOn p := rfl

theorem State.resetBlock_halted (s : State) : s.resetBlock.halted = false := State.halted_eq_false.mpr rfl

/-- Reset empties the port, so the block has no command to execute (R201). -/
theorem step_resetBlock (s : State) : step s.resetBlock = .next s.resetBlock :=
  have hport : s.resetBlock.port = [] := rfl
  step_of_short s.resetBlock_halted (by simp [hport])

/-- Settles O15: reset sets the registers, so the block is not halted and, on its empty port, waits. Reset on a platform is
the case of a block that already stands as reset. -/
theorem resetLeavesBlockWaiting : Obligations.ResetLeavesBlockWaiting := by
  constructor
  · intro p
    have hhalted := (State.resetOn p).resetBlock_halted
    have hstep := step_resetBlock (State.resetOn p)
    rw [State.resetBlock_resetOn] at hhalted hstep
    exact ⟨rfl, rfl, rfl, rfl, rfl, rfl, hhalted, hstep⟩
  · intro s
    exact ⟨rfl, rfl, rfl, rfl, rfl, rfl, s.resetBlock_halted, step_resetBlock s⟩

end Sys2Proof.Machine
end

section
/-! SUPPORT. Table words (00_scope.md R8): a command's 96-bit table word names the command itself, so decoding it is decoding
the command, and placing it puts the command's three words first on the port. -/

namespace Sys2Proof

theorem tableCommand_toNat (c : Command) : tableCommand 96 c.toNat = c := by
  simp [tableCommand, Nat.mod_eq_of_lt c.isLt]

theorem wordsOfBytes_bytes_eq_words (c : Command) : wordsOfBytes c.bytes = c.words := by
  simpa using wordsOfBytes_flatMap_bytes [c]

theorem decodeBytes_bytes (c : Command) : decodeBytes c.bytes = some (decode c) := by
  have htake : takeCommand c.words = some (c, []) := takeCommand_words c []
  rw [decodeBytes, wordsOfBytes_bytes_eq_words, htake, Option.map_some]

theorem decodeTableWord_toNat {c : Command} {i : Instr} (h : decode c = .ok i) : decodeTableWord 96 c.toNat = some i := by
  rw [decodeTableWord, tableCommand_toNat, decodeBytes_bytes, h]

namespace Machine

theorem State.withFetchWord_toNat (s : State) (c : Command) :
    s.withFetchWord 96 c.toNat = s.withPort (c.words ++ s.port) := by
  rw [State.withFetchWord, tableCommand_toNat, wordsOfBytes_bytes_eq_words]

end Machine

end Sys2Proof
end

section
/-! The opcode table's words: they decode to their instruction, and a block that has one placed executes it (logs 8 and 9). -/

namespace Sys2Proof.Machine

/-- Settles O8: the table word is the instruction's command, and the step that takes the placed command off the port leaves
the port as it was before the placing. -/
theorem tableWordRunsItsInstruction : Obligations.TableWordRunsItsInstruction := by
  intro i
  refine ⟨decodeTableWord_toNat (decode_encode i), fun s hs => ?_⟩
  rw [State.withFetchWord_toNat]
  exact step_of_decode_ok (s := s.withPort ((encode i).words ++ s.port)) hs rfl (decode_encode i)

end Sys2Proof.Machine
end
